-- ==== Sys2Proof/Word.lean ====
section
/-! DEFINITION. The widths of the PDM capture core's values: bytes of the stream, one bit per channel, the packed
sample word, and the two-bit state codes. A build with fewer than three channels uses the low bits (log entry 6). -/

namespace Sys2Proof

/-- One byte of the output stream, or a select vector padded to a byte (`30_encoding.md` rule R48). -/
abbrev Byte := BitVec 8

/-- One bit per channel, bit `i` for channel `i` (rule R76); an N-channel build uses the low N bits. -/
abbrev Lanes := BitVec 3

/-- The sample word or the cycle counter; an N-channel build uses the low `W = 2 * N` bits (rules R23, R25). -/
abbrev SampleWord := BitVec 6

/-- A state code of the Sampling State Machine or of the Streamer (rules R49, R50). -/
abbrev StateCode := BitVec 2

end Sys2Proof
end

