-- ==== Sys2Proof/Config.lean ====
section
/-! DEFINITION. The build-time parameters (`00_scope.md` rule R5), what the environment presents in one cycle
(`10_state.md` rule R29, `20_memory.md` rule R36, `48_host_consumer.md` rule R103), and the values the spec leaves
free, as constants without a body. -/

namespace Sys2Proof

/-- The configuration of one build (rules R5, R13, R38). -/
structure Config where
  /-- `N`, the channel count. -/
  channels : Nat
  /-- `D`, the clock divisor. -/
  divisor : Nat
  /-- `C`, the output queue's capacity in bytes. -/
  capacity : Nat
  /-- `ROOM_EXACT`: the queue reports room exactly when it has some (rule R38). -/
  roomExact : Bool
  /-- `FLUSH_THRESHOLD` of the host consumer, in bytes (rules R5, R108). -/
  flushThreshold : Nat
  /-- `F_REF`, the reference clock frequency in Hz (rules R5, R6). -/
  fRef : Rat
  /-- `F_TARGET`, the target bit-clock rate in Hz (rule R5). -/
  fTarget : Rat
  deriving DecidableEq, Repr

/-- This design (rule R5; decisions D12, D27, D28). DESIGN CHOICE: the spec leaves `D` and `F_REF` OPEN; 4 and 8.8 MHz
are the model's, unsafe (log entries 3 and 17). -/
def Config.thisDesign : Config :=
  { channels := 3
    divisor := 4
    capacity := 8192
    roomExact := false
    flushThreshold := 1048576
    fRef := 8800000
    fTarget := 2200000 }

/-- `SYNC_DEPTH` (rule R5): the synchronizer has the two stages `sync1` and `sync2`. -/
def Config.syncDepth : Nat := 2

/-- The bit-clock frequency `F_REF / D` (rules R6, R70). -/
def Config.bitClockRate (c : Config) : Rat := c.fRef / (c.divisor : Rat)

/-- What a request for the next chunk may answer (rule R103). -/
inductive TransportResult where
  /-- The next `n` bytes of those removed from the queue and not yet delivered; all of them where they are fewer. -/
  | chunk (n : Nat)
  /-- The normal end of the stream. -/
  | endOfStream
  /-- The transport failed, for example because it was closed out-of-band. -/
  | failure
  deriving DecidableEq, Repr

/-- One answer of the transport to the host consumer, and how the file writes it leads to end. -/
structure HostEvent where
  result : TransportResult
  /-- The flush of rule R108, if this answer leads to one, fails. -/
  flushFails : Bool
  /-- The exit-path write of rule R109, if this answer leads to one, fails. -/
  exitWriteFails : Bool
  /-- After a failed write the file holds this many bytes of its intended content (rule R110; log entry 14). -/
  kept : Nat
  deriving DecidableEq, Repr

/-- What the environment presents in one reference-clock cycle (rules R29, R36, R103). -/
structure Stimulus where
  /-- The data pins; bits at or above N are 0 (rule R61). -/
  pins : Lanes
  /-- The queue's room indication. -/
  room : Bool
  /-- `k`, how many head bytes the environment removes from the queue (rule R36). -/
  drain : Nat
  /-- The transport's answers to the host consumer in this cycle, in order; `none` where they are not given, and are
  then a free draw (rule R103; log entry 22). -/
  host : Option (List HostEvent)
  deriving DecidableEq, Repr

/-- The data pins of a cycle with no stimulus: a free draw (rule R74, item I8; log entry 4). -/
opaque Config.freePins : Nat → Lanes
/-- The room indication of a cycle with no stimulus, before rule R38 constrains it: a free draw (item I9). -/
opaque Config.freeRoom : Nat → Bool
/-- The removal count of a cycle with no stimulus, before it is bounded by the queue: a free draw (item I10). -/
opaque Config.freeDrain : Nat → Nat
/-- The transport's answers in a cycle whose stimulus gives none: a free draw (items I11, I12; log entry 22). -/
opaque Config.freeHost : Nat → List HostEvent

/-- The arguments of the parameter `EXIT_STATUS` (rule R112). -/
inductive ExitKind where
  | ok
  | overrun
  | writeFailure
  deriving DecidableEq, Repr

/-- `EXIT_STATUS`: OPEN (rule R112, decision D21), so a constant without a body (log entry 15). -/
opaque Config.exitStatus : ExitKind → Int

/-- Whether a session with both an overrun and a write failure exits as a write failure: the spec states neither
(log entry 15). -/
opaque Config.writeFailureWins : Bool

end Sys2Proof
end

