-- ==== Sys2Proof/Syntax.lean ====
section
/-! DEFINITION. The instructions: one constructor per row of `spec/opcode_table.json`. An instruction is one guarded
transition arm of one of the four machines, or one output-byte format (`00_scope.md` section 2.1 and rule R9). -/

namespace Sys2Proof

inductive Instr where
  /-- `CG_FALL_RELOAD` (rule R64). -/
  | cgFallReload
  /-- `CG_RISE` (rule R65). -/
  | cgRise
  /-- `CG_COUNT` (rule R66). -/
  | cgCount
  /-- `SYNC_SHIFT` (rule R72). -/
  | syncShift
  /-- `SMP_REPORT` (rule R79). -/
  | smpReport
  /-- `SMP_HOLD_RISE` (rule R80). -/
  | smpHoldRise
  /-- `SMP_CAPTURE_RISE` (rule R81). -/
  | smpCaptureRise
  /-- `SMP_HOLD_FALL` (rule R82). -/
  | smpHoldFall
  /-- `SMP_CAPTURE_FALL` (rule R83). -/
  | smpCaptureFall
  /-- `SMP_UNREACHABLE_FAULT` (rule R113). -/
  | smpUnreachableFault
  /-- `STR_IDLE_NOP` (rule R91). -/
  | strIdleNop
  /-- `STR_OVERRUN_DETECT` (rule R93). -/
  | strOverrunDetect
  /-- `STR_WRITE_DATA` (rule R92). -/
  | strWriteData
  /-- `STR_OVR_HOLD` (rule R94). -/
  | strOvrHold
  /-- `STR_WRITE_SENTINEL` (rule R95). -/
  | strWriteSentinel
  /-- `STR_WAIT` (rule R96). -/
  | strWait
  /-- `STR_UNREACHABLE_FAULT` (rule R113). -/
  | strUnreachableFault
  /-- `DATA_N3` (rule R56): the DATA byte `00dddddd` of a three-channel build. -/
  | dataN3 (d : BitVec 6)
  /-- `DATA_N2` (rule R56): the DATA byte `0000dddd` of a two-channel build. -/
  | dataN2 (d : BitVec 4)
  /-- `DATA_N1` (rule R56): the DATA byte `000000dd` of a one-channel build. -/
  | dataN1 (d : BitVec 2)
  /-- `SENTINEL` (rule R57): the byte 0xFF. -/
  | sentinel
  deriving DecidableEq, Repr

end Sys2Proof
end

