-- ==== Sys2Proof/WellFormed.lean ====
section
/-! DEFINITION. What the spec refuses: a configuration outside rule R114's values, a DATA row of another channel
count, and stimulus pins beyond the channels. Each is a Bool. -/

namespace Sys2Proof

/-- `60_exceptions.md` rule R114 (with `W = 2 * N` by definition), and rule R5's positive `FLUSH_THRESHOLD`, `F_REF` and
`F_TARGET` (log entry 21). -/
def Config.legal (c : Config) : Bool :=
  decide (1 ≤ c.channels ∧ c.channels ≤ 3) && decide (2 ≤ c.divisor) && decide (1 ≤ c.capacity) &&
    decide (1 ≤ c.flushThreshold) && decide (0 < c.fRef) && decide (0 < c.fTarget)

/-- An instruction belongs to an `n`-channel build: each DATA row is the row of one channel count (rule R56). -/
def Instr.wellFormed (n : Nat) : Instr → Bool
  | .dataN3 _ => n == 3
  | .dataN2 _ => n == 2
  | .dataN1 _ => n == 1
  | _ => true

/-- A stimulus drives no pin at or above the channel count (rule R61: such bits are "written 0"). -/
def Stimulus.wellFormed (n : Nat) (x : Stimulus) : Bool :=
  decide (x.pins.toNat < 2 ^ n)

end Sys2Proof
end

