-- ==== Sys2Proof/Decode.lean ====
section
/-! DEFINITION. The encodings of `30_encoding.md`: the opcode table as rows of match and mask, the decoder of a value
in a format, the encoder, the stream-byte decoder of a reader (rule R58), and the stimulus word (rule R61). -/

namespace Sys2Proof

/-- The formats of `30_encoding.md` rule R48 that the opcode table has rows of. -/
inductive Format where
  | cgSelect
  | syncSelect
  | smpSelect
  | strSelect
  | streamByte
  deriving DecidableEq, Repr

/-- The width of a format in bits (rule R48). -/
def Format.width : Format → Nat
  | .cgSelect => 2
  | .syncSelect => 0
  | .smpSelect => 4
  | .strSelect => 4
  | .streamByte => 8

/-- One row of the opcode table. -/
structure Row where
  format : Format
  /-- The channel count the row belongs to; `none` for every one. -/
  channels : Option Nat
  code : Byte
  mask : Byte
  build : Byte → Instr

/-- The rows of `spec/opcode_table.json`, in its order (rules R51 to R54, R56, R57). -/
def opcodeRows : List Row :=
  [ ⟨.cgSelect, none, 0x2, 0x3, fun _ => .cgFallReload⟩,
    ⟨.cgSelect, none, 0x1, 0x3, fun _ => .cgRise⟩,
    ⟨.cgSelect, none, 0x0, 0x3, fun _ => .cgCount⟩,
    ⟨.syncSelect, none, 0x0, 0x0, fun _ => .syncShift⟩,
    ⟨.smpSelect, none, 0x0, 0xC, fun _ => .smpReport⟩,
    ⟨.smpSelect, none, 0x4, 0xE, fun _ => .smpHoldRise⟩,
    ⟨.smpSelect, none, 0x6, 0xE, fun _ => .smpCaptureRise⟩,
    ⟨.smpSelect, none, 0x8, 0xD, fun _ => .smpHoldFall⟩,
    ⟨.smpSelect, none, 0x9, 0xD, fun _ => .smpCaptureFall⟩,
    ⟨.smpSelect, none, 0xC, 0xC, fun _ => .smpUnreachableFault⟩,
    ⟨.strSelect, none, 0x0, 0xE, fun _ => .strIdleNop⟩,
    ⟨.strSelect, none, 0x2, 0xF, fun _ => .strOverrunDetect⟩,
    ⟨.strSelect, none, 0x3, 0xF, fun _ => .strWriteData⟩,
    ⟨.strSelect, none, 0x4, 0xD, fun _ => .strOvrHold⟩,
    ⟨.strSelect, none, 0x5, 0xD, fun _ => .strWriteSentinel⟩,
    ⟨.strSelect, none, 0x8, 0xC, fun _ => .strWait⟩,
    ⟨.strSelect, none, 0xC, 0xC, fun _ => .strUnreachableFault⟩,
    ⟨.streamByte, some 3, 0x00, 0xC0, fun v => .dataN3 (v.setWidth 6)⟩,
    ⟨.streamByte, some 2, 0x00, 0xF0, fun v => .dataN2 (v.setWidth 4)⟩,
    ⟨.streamByte, some 1, 0x00, 0xFC, fun v => .dataN1 (v.setWidth 2)⟩,
    ⟨.streamByte, none, 0xFF, 0xFF, fun _ => .sentinel⟩ ]

/-- The row belongs to an `n`-channel build. -/
def Row.forChannels (r : Row) (n : Nat) : Bool :=
  match r.channels with
  | none => true
  | some m => m == n

/-- Rule R55: a row is taken when `(value & mask) = match`. -/
def Row.selects (r : Row) (f : Format) (n : Nat) (v : Byte) : Bool :=
  r.format == f && r.forChannels n && (v &&& r.mask) == r.code

/-- Why a value is no instruction. -/
inductive DecodeError where
  /-- The value has a bit at or above the format's width. -/
  | valueTooWide (f : Format) (v : Byte)
  /-- `cg_select = 0b11`: no state has it (rule R51). -/
  | bothComparesHold
  /-- A reserved byte: the verdict "invalid" (rule R58). -/
  | reservedByte (v : Byte)
  /-- No row of the format has the value. -/
  | noRow (f : Format) (v : Byte)
  deriving DecidableEq, Repr

/-- The name of the reason no row takes a value of a format. -/
def Format.noRowError (f : Format) (v : Byte) : DecodeError :=
  match f with
  | .cgSelect => .bothComparesHold
  | .streamByte => .reservedByte v
  | _ => .noRow f v

/-- The instruction a value selects in a format, in an `n`-channel build (rule R55). Total; rejects by name. -/
def decode (f : Format) (n : Nat) (v : Byte) : Except DecodeError Instr :=
  if v.toNat < 2 ^ f.width then
    match opcodeRows.find? (fun r => r.selects f n v) with
    | some r => .ok (r.build v)
    | none => .error (f.noRowError v)
  else .error (.valueTooWide f v)

/-- The format of an instruction's row. -/
def Instr.format : Instr → Format
  | .cgFallReload | .cgRise | .cgCount => .cgSelect
  | .syncShift => .syncSelect
  | .smpReport | .smpHoldRise | .smpCaptureRise | .smpHoldFall | .smpCaptureFall | .smpUnreachableFault => .smpSelect
  | .strIdleNop | .strOverrunDetect | .strWriteData | .strOvrHold | .strWriteSentinel | .strWait
  | .strUnreachableFault => .strSelect
  | .dataN3 _ | .dataN2 _ | .dataN1 _ | .sentinel => .streamByte

/-- The bits of its encoding that an instruction fixes: its row's mask, and every bit of an output byte. -/
def Instr.fixedBits : Instr → Byte
  | .cgFallReload | .cgRise | .cgCount => 0x3
  | .syncShift => 0x0
  | .smpReport | .smpUnreachableFault | .strWait | .strUnreachableFault => 0xC
  | .smpHoldRise | .smpCaptureRise | .strIdleNop => 0xE
  | .smpHoldFall | .smpCaptureFall | .strOvrHold | .strWriteSentinel => 0xD
  | .strOverrunDetect | .strWriteData => 0xF
  | .dataN3 _ | .dataN2 _ | .dataN1 _ | .sentinel => 0xFF

/-- The encoding of an instruction in its format, its don't-care bits 0 (rules R51 to R54, R56, R57). -/
def encode : Instr → Byte
  | .cgFallReload => 0b10
  | .cgRise => 0b01
  | .cgCount => 0b00
  | .syncShift => 0
  | .smpReport => 0b0000
  | .smpHoldRise => 0b0100
  | .smpCaptureRise => 0b0110
  | .smpHoldFall => 0b1000
  | .smpCaptureFall => 0b1001
  | .smpUnreachableFault => 0b1100
  | .strIdleNop => 0b0000
  | .strOverrunDetect => 0b0010
  | .strWriteData => 0b0011
  | .strOvrHold => 0b0100
  | .strWriteSentinel => 0b0101
  | .strWait => 0b1000
  | .strUnreachableFault => 0b1100
  | .dataN3 d => d.setWidth 8
  | .dataN2 d => d.setWidth 8
  | .dataN1 d => d.setWidth 8
  | .sentinel => 0xFF

/-- A row can be meant by a table word of `nbits` bits. The table's select vectors have 0, 2 or 4 bits, and a word
given in whole bytes may be a row of any width it holds (log entry 9). -/
def Row.holdsWord (r : Row) (nbits w : Nat) : Bool :=
  (if nbits < 8 then r.format.width == nbits else true) && decide (w < 2 ^ r.format.width) &&
    (BitVec.ofNat 8 w &&& r.mask) == r.code

/-- The row meant by a table word, which does not carry its format: the first row whose match is the word itself,
else the first whose pattern holds it. DESIGN CHOICE, safe (log entry 9). -/
def tableRow (nbits w : Nat) : Option Row :=
  let rows := opcodeRows.filter (fun r => r.holdsWord nbits w)
  (rows.find? (fun r => r.code == BitVec.ofNat 8 w)).or rows.head?

/-- The instruction the decoder reads from a table word, in the format of `tableRow`. -/
def decodeTableWord (nbits w : Nat) : Option Instr :=
  match tableRow nbits w with
  | some r => (decode r.format (r.channels.getD 3) (BitVec.ofNat 8 w)).toOption
  | none => none

/-- What a reader of the stream makes of one byte (rules R56 to R59). -/
inductive StreamItem where
  /-- A DATA byte: each channel's rising-edge and falling-edge value. -/
  | data (rise fall : Lanes)
  /-- The overrun sentinel. -/
  | overrun
  /-- A reserved byte (rule R58). -/
  | invalid
  deriving DecidableEq, Repr

/-- The rising-edge values of a sample word: bits 0, 2 and 4 (rule R39). -/
def risingBits (w : Byte) : Lanes :=
  BitVec.ofBool (w.getLsbD 4) ++ BitVec.ofBool (w.getLsbD 2) ++ BitVec.ofBool (w.getLsbD 0)

/-- The falling-edge values of a sample word: bits 1, 3 and 5 (rule R39). -/
def fallingBits (w : Byte) : Lanes :=
  BitVec.ofBool (w.getLsbD 5) ++ BitVec.ofBool (w.getLsbD 3) ++ BitVec.ofBool (w.getLsbD 1)

/-- A reader's verdict on one byte of an `n`-channel stream (rules R56 to R58). -/
def readStreamByte (n : Nat) (b : Byte) : StreamItem :=
  match decode .streamByte n b with
  | .ok .sentinel => .overrun
  | .ok _ => .data (risingBits b) (fallingBits b)
  | .error _ => .invalid

/-- A reader's verdicts on a stream, each from its byte alone (rule R59). -/
def readStream (n : Nat) (bytes : List Byte) : List StreamItem :=
  bytes.map (readStreamByte n)

/-- Why a byte is no stimulus word. -/
inductive StimulusError where
  /-- One of the bits 6 to 3 is set (rule R61). -/
  | zeroBitsSet
  /-- A pin bit at or above the channel count is set (rule R61). -/
  | pinsBeyondChannels
  deriving DecidableEq, Repr

/-- The stimulus word `S = (room, 0000, pins)` of a cycle (rule R61). -/
def encodeStimulus (x : Stimulus) : Byte :=
  BitVec.ofBool x.room ++ (0 : BitVec 4) ++ x.pins

/-- The stimulus of a word (rule R61): the word carries pins and room, drain has its default 0, and the transport's
answers are not given, so they are a free draw (DESIGN CHOICE, safe: log entry 22). -/
def decodeStimulus (n : Nat) (b : Byte) : Except StimulusError Stimulus :=
  if (b &&& 0x78) == 0 then
    if (b.setWidth 3).toNat < 2 ^ n then
      .ok { pins := b.setWidth 3, room := b.getLsbD 7, drain := 0, host := none }
    else .error .pinsBeyondChannels
  else .error .zeroBitsSet

end Sys2Proof
end

