-- ==== Sys2Proof/Machine/State.lean ====
section
/-! DEFINITION. The machine's state as plain data: the fourteen registers of `10_state.md` rules R14 to R27, the output
queue (rule R28), the transport and the host consumer as environment (`48_host_consumer.md`), the configuration and the
stimulus; the reasons a step stops; and the state after reset (`70_reset_and_hazards.md` rule R128). -/

namespace Sys2Proof.Machine

/-- Why the machine stops (rule R113). None is reached from reset, so each is safe: a claim about a run that faults
fails. -/
inductive Fault where
  /-- Raised by SMP_UNREACHABLE_FAULT: `smp_state = 0b11` (rule R113 a). Safe. -/
  | smpStateUnreachable
  /-- Raised by STR_UNREACHABLE_FAULT: `str_state = 0b11` (rule R113 b). Safe. -/
  | strStateUnreachable
  /-- Raised by the write primitive: a queue write with `room = 0` (rule R113 c). Safe. -/
  | writeWithoutRoom
  /-- Raised by the write primitive: a queue write with `|Q| = C` (rule R113 c). Safe. -/
  | writeToFullQueue
  deriving DecidableEq, Repr

/-- Why the model gives no meaning. -/
inductive Refusal where
  /-- An instruction not modelled yet; no arm of exec answers it now. Safe. -/
  | notModelled (mnemonic : String)
  /-- Raised by the cycle and by `build`: a configuration outside rule R114's values. Safe. -/
  | illegalConfiguration
  /-- Raised by the cycle: the stimulus drives a pin at or above N (rule R61; log entry 5). Safe. -/
  | pinsBeyondChannels
  /-- Raised by the cycle: the stimulus breaks the constraint on room of rule R38 (log entry 5). Safe. -/
  | roomBreaksConstraint
  /-- Raised by the cycle: the stimulus removes more bytes than the queue holds (rule R36; log entry 5). Safe. -/
  | drainBeyondQueue
  /-- Raised by the cycle: the stimulus ends the stream normally while bytes removed from the queue are undelivered
  (rule R103; log entries 5, 23). Safe. -/
  | endOfStreamBeforeDelivery
  /-- Raised by the cycle: a select vector with no row. No legal configuration has one (rules R51, R55). Safe. -/
  | noArmSelected
  /-- Raised by the DATA rows: the row is another channel count's (rule R56; log entry 8). Safe. -/
  | dataRowOfOtherChannelCount
  deriving DecidableEq, Repr

/-- How the consumer's loop ended (`48_host_consumer.md` rules R107, R109 to R111). -/
inductive ExitPath where
  | overrun
  | endOfStream
  | transportFailure
  | writeFailure
  deriving DecidableEq, Repr

/-- What the consumer logs (rules R107, R110, R111). -/
inductive LogEntry where
  | overrun
  | transportFailure
  | writeFailure
  deriving DecidableEq, Repr

/-- Whether the consumer waits for the next chunk or has left its loop (rules R105, R109). -/
inductive ConsumerPhase where
  | requesting
  | exited (path : ExitPath)
  deriving DecidableEq, Repr

/-- One session of the host consumer (rules R104 to R112). -/
structure Consumer where
  phase : ConsumerPhase
  /-- The output buffer, "an append-only byte accumulator" (rule R104). -/
  buf : List Byte
  /-- The destination file's content (rule R104). -/
  file : List Byte
  log : List LogEntry
  /-- How often the file was closed (rule R109). -/
  closes : Nat
  /-- How often a write to the file was attempted (rules R108 to R110). -/
  writes : Nat
  deriving DecidableEq, Repr

/-- A session just opened: the file fresh and the buffer empty (rule R104). -/
def Consumer.opened : Consumer :=
  { phase := .requesting, buf := [], file := [], log := [], closes := 0, writes := 0 }

structure State where
  /-- The configuration; no step writes it (rule R13; log entry 2). -/
  cfg : Config
  /-- The number `t` of the current cycle (rule R7). -/
  cycle : Nat
  /-- The stimulus still to come, the current cycle's first; free draws follow its end (rule R61; log entry 4). -/
  inputs : List Stimulus
  /-- `cg_cnt` (rule R14). -/
  cgCnt : Nat
  /-- `bclk` (rule R15). -/
  bclk : Bool
  /-- `stb_r` (rule R16). -/
  stbR : Bool
  /-- `stb_f` (rule R17). -/
  stbF : Bool
  /-- `sync1` (rule R18). -/
  sync1 : Lanes
  /-- `sync2` (rule R19). -/
  sync2 : Lanes
  /-- `smp_state` (rule R20). -/
  smpState : StateCode
  /-- `rise` (rule R21). -/
  rise : Lanes
  /-- `fall` (rule R22). -/
  fall : Lanes
  /-- `word` (rule R23). -/
  word : SampleWord
  /-- `word_stb` (rule R24). -/
  wordStb : Bool
  /-- `cyc_cnt` (rule R25). -/
  cycCnt : SampleWord
  /-- `cyc_cnt_prev` (rule R26). -/
  cycCntPrev : SampleWord
  /-- `str_state` (rule R27). -/
  strState : StateCode
  /-- The output queue `Q`, its head first (rule R28). -/
  queue : List Byte
  /-- Bytes removed from the queue and not yet delivered to the consumer (rules R36, R103; log entry 13). -/
  inFlight : List Byte
  /-- The host consumer (rules R104 to R112). -/
  host : Consumer
  deriving DecidableEq, Repr

/-- The reset state of a build (rules R14 to R28, R128). -/
def State.resetWith (c : Config) : State :=
  { cfg := c
    cycle := 0
    inputs := []
    cgCnt := c.divisor - 1
    bclk := false
    stbR := false
    stbF := false
    sync1 := 0
    sync2 := 0
    smpState := 0b00
    rise := 0
    fall := 0
    word := 0
    wordStb := false
    cycCnt := 0
    cycCntPrev := 0
    strState := 0b00
    queue := []
    inFlight := []
    host := Consumer.opened }

/-- The state after reset of this design (rule R128; the divisor is log entry 3's). -/
def State.reset : State := State.resetWith Config.thisDesign

end Sys2Proof.Machine
end

