-- ==== Sys2Proof/Machine/Codes.lean ====
section
/-! DEFINITION. The state codes of the two state machines and the sentinel byte (`30_encoding.md` rules R49, R50, R57). -/

namespace Sys2Proof.Machine

/-- `REPORT` (`30_encoding.md` rule R49). -/
abbrev smpReport : StateCode := 0b00
/-- `WAIT_RISING_EDGE` (rule R49). -/
abbrev smpWaitRising : StateCode := 0b01
/-- `WAIT_FALLING_EDGE` (rule R49). -/
abbrev smpWaitFalling : StateCode := 0b10
/-- `IDLE` (rule R50). -/
abbrev strIdle : StateCode := 0b00
/-- `REPORT_OVERRUN` (rule R50). -/
abbrev strReportOverrun : StateCode := 0b01
/-- `WAIT` (rule R50). -/
abbrev strWait : StateCode := 0b10
/-- The unreachable code of both machines (rules R49, R50). -/
abbrev codeUnreachable : StateCode := 0b11

/-- `SENTINEL` (rules R5, R57). -/
abbrev sentinelByte : Byte := 0xFF

end Sys2Proof.Machine
end

