-- ==== Sys2Proof/Machine/Consumer.lean ====
section
/-! DEFINITION. The host consumer's loop, as the block's environment (`48_host_consumer.md` rules R103 to R112). -/

namespace Sys2Proof.Machine

/-- The bytes of a chunk before its first 0xFF (rule R107). -/
def beforeSentinel (bytes : List Byte) : List Byte := bytes.takeWhile (fun b => b != sentinelByte)

/-- Log an event (rules R107, R110, R111). -/
def Consumer.note (c : Consumer) (x : LogEntry) : Consumer := { c with log := c.log ++ [x] }

/-- Append bytes to the buffer (rules R107, R108). -/
def Consumer.gain (c : Consumer) (bytes : List Byte) : Consumer := { c with buf := c.buf ++ bytes }

/-- Leave the loop (rule R109): write the buffer once if it is non-empty, clear it, close the file once. A write that
fails is logged and does not re-raise; after a failure, of this write or of the flush before it (`failed`), the file
holds a part from the start of its intended content (rule R110; log entry 14). -/
def Consumer.leave (c : Consumer) (path : ExitPath) (failed : Bool) (e : HostEvent) : Consumer :=
  if c.buf.isEmpty then { c with phase := .exited path, closes := c.closes + 1 }
  else
    { phase := .exited path
      buf := []
      file := if failed || e.exitWriteFails then (c.file ++ c.buf).take e.kept else c.file ++ c.buf
      log := if e.exitWriteFails then c.log ++ [.writeFailure] else c.log
      closes := c.closes + 1
      writes := c.writes + 1 }

/-- The flush of rule R108: write the buffer and clear it. A failure is logged and ends the loop, which attempts the
exit-path write once (rule R110). -/
def Consumer.flush (c : Consumer) (e : HostEvent) : Consumer :=
  if e.flushFails then
    Consumer.leave { c.note .writeFailure with writes := c.writes + 1 } .writeFailure true e
  else { c with file := c.file ++ c.buf, buf := [], writes := c.writes + 1 }

/-- The loop step on a chunk (rules R106 to R108). -/
def Consumer.takeChunk (c : Consumer) (threshold : Nat) (chunk : List Byte) (e : HostEvent) : Consumer :=
  if chunk.isEmpty then c
  else if chunk.contains sentinelByte then
    ((c.gain (beforeSentinel chunk)).note .overrun).leave .overrun false e
  else if threshold < (c.gain chunk).buf.length then (c.gain chunk).flush e
  else c.gain chunk

/-- One answer of the transport (rules R103, R105 to R111): the consumer's next state and the bytes still in flight.
After the loop's exit nothing is requested, so nothing changes. -/
def Consumer.answer (threshold : Nat) (cb : Consumer × List Byte) (e : HostEvent) : Consumer × List Byte :=
  let (c, bytes) := cb
  match c.phase with
  | .exited _ => (c, bytes)
  | .requesting =>
    match e.result with
    | .chunk n => (c.takeChunk threshold (bytes.take n) e, bytes.drop n)
    | .endOfStream => (c.leave .endOfStream false e, bytes)
    | .failure => ((c.note .transportFailure).leave .transportFailure false e, bytes)

/-- The answers of one cycle, in order. -/
def Consumer.answers (threshold : Nat) (c : Consumer) (bytes : List Byte) (es : List HostEvent) :
    Consumer × List Byte :=
  es.foldl (Consumer.answer threshold) (c, bytes)

/-- The bytes the chunks among a list of answers deliver, in order (rule R103). -/
def Consumer.delivered (threshold : Nat) (cb : Consumer × List Byte) : List HostEvent → List Byte
  | [] => []
  | e :: es =>
    (match cb.1.phase, e.result with
      | .requesting, .chunk n => cb.2.take n
      | _, _ => []) ++ Consumer.delivered threshold (Consumer.answer threshold cb e) es

/-- The transport can answer so: it ends the stream normally only when every byte removed from the queue has been
delivered, since the chunks concatenated are the bytes removed (rule R103; log entry 23). A failure may lose bytes, and
after the loop's exit nothing is requested. -/
def Consumer.admits (threshold : Nat) (cb : Consumer × List Byte) : List HostEvent → Bool
  | [] => true
  | e :: es =>
    (match cb.1.phase, e.result with
      | .requesting, .endOfStream => cb.2.isEmpty
      | _, _ => true) && Consumer.admits threshold (Consumer.answer threshold cb e) es

/-- What a session's exit status reflects: "whether overrun or write failure occurred" (rule R112; log entry 15). -/
def Consumer.exitKind (c : Consumer) : ExitKind :=
  match c.log.contains .overrun, c.log.contains .writeFailure with
  | false, false => .ok
  | true, false => .overrun
  | false, true => .writeFailure
  | true, true => if Config.writeFailureWins then .writeFailure else .overrun

/-- The process exit status once the loop has ended (rule R112). -/
def Consumer.exitStatus (c : Consumer) : Option Int :=
  match c.phase with
  | .requesting => none
  | .exited _ => some (Config.exitStatus c.exitKind)

end Sys2Proof.Machine
end

