-- ==== Sys2Proof/Machine/Operands.lean ====
section
/-! DEFINITION. The operand forms: the derived parameters `H` and `W`, the N-bit lanes, the channel
interleave, the DATA byte, the cycle counter's increment, and the select vectors that choose the arms. -/

namespace Sys2Proof.Machine

/-- `H = floor(D/2)` (rule R5). -/
def halfPeriod (c : Config) : Nat := c.divisor / 2

/-- `W = 2 * N` (rule R5). -/
def wordWidth (c : Config) : Nat := 2 * c.channels

/-- Channel `i`'s bit of an N-bit value. -/
def laneBit (n : Nat) (v : Lanes) (i : Nat) : Bool := decide (i < n) && v.getLsbD i

/-- The N-bit value a register of an N-channel build holds: no bit at or above N. -/
def narrow (n : Nat) (v : Lanes) : Lanes :=
  BitVec.ofBool (laneBit n v 2) ++ BitVec.ofBool (laneBit n v 1) ++ BitVec.ofBool (laneBit n v 0)

/-- `interleave_N(r, f)` (`42_sampling_fsm.md` rule R78): bit `2i` is `r[i]`, bit `2i+1` is `f[i]`. -/
def interleave (n : Nat) (r f : Lanes) : SampleWord :=
  BitVec.ofBool (laneBit n f 2) ++ BitVec.ofBool (laneBit n r 2) ++
    BitVec.ofBool (laneBit n f 1) ++ BitVec.ofBool (laneBit n r 1) ++
    BitVec.ofBool (laneBit n f 0) ++ BitVec.ofBool (laneBit n r 0)

/-- `zext_8(word)`, the DATA byte of a sample word (rule R56). -/
def dataByte (w : SampleWord) : Byte := w.setWidth 8

/-- `(cyc_cnt + 1) mod 2^W` (rule R83). -/
def nextCount (c : Config) (k : SampleWord) : SampleWord := BitVec.ofNat 6 ((k.toNat + 1) % 2 ^ wordWidth c)

/-- `z`: the counter is at 0 (rule R51). -/
def State.atZero (s : State) : Bool := s.cgCnt == 0

/-- `h`: the counter is at the half-period compare value (rule R51). -/
def State.atHalf (s : State) : Bool := s.cgCnt == halfPeriod s.cfg

/-- `cg_select`, bit 1 `z` and bit 0 `h` (rule R51). -/
def State.cgSelect (s : State) : Byte :=
  (0 : BitVec 6) ++ BitVec.ofBool s.atZero ++ BitVec.ofBool s.atHalf

/-- `sync_select`: empty (rule R52). -/
def State.syncSelect (_ : State) : Byte := 0

/-- `smp_select`: the state code, `stb_r`, `stb_f` (rule R53). -/
def State.smpSelect (s : State) : Byte :=
  (0 : BitVec 4) ++ s.smpState ++ BitVec.ofBool s.stbR ++ BitVec.ofBool s.stbF

/-- The queue has a free slot, `|Q| < C` (rule R38). -/
def State.hasSlot (s : State) : Bool := decide (s.queue.length < s.cfg.capacity)

/-- What the environment presents in a cycle without a stimulus: free draws numbered by the cycle, within the
constraints of rules R36 and R38 (log entry 4). -/
def State.drawn (s : State) : Stimulus :=
  { pins := narrow s.cfg.channels (Config.freePins s.cycle)
    room := if s.cfg.roomExact then s.hasSlot else Config.freeRoom s.cycle && s.hasSlot
    drain := min (Config.freeDrain s.cycle) s.queue.length
    host := none }

/-- What the environment presents in the current cycle (rule R29). -/
def State.input (s : State) : Stimulus :=
  match s.inputs with
  | x :: _ => x
  | [] => s.drawn

/-- The transport's answers where a cycle's stimulus gives none: a free draw numbered by the cycle, within the
constraint of rule R103 (log entries 22, 23). -/
def State.drawnHost (s : State) : List HostEvent :=
  if Consumer.admits s.cfg.flushThreshold (s.host, s.inFlight) (Config.freeHost s.cycle) then Config.freeHost s.cycle
  else []

/-- The transport's answers of the current cycle (rule R103). -/
def State.hostEvents (s : State) : List HostEvent := s.input.host.getD s.drawnHost

/-- `pins` of the current cycle, N bits (rule R29). -/
def State.pins (s : State) : Lanes := narrow s.cfg.channels s.input.pins

/-- `room` of the current cycle (rules R29, R37). -/
def State.room (s : State) : Bool := s.input.room

/-- `str_select`: the state code, `word_stb`, `room` (rule R54). -/
def State.strSelect (s : State) : Byte :=
  (0 : BitVec 4) ++ s.strState ++ BitVec.ofBool s.wordStb ++ BitVec.ofBool s.room

end Sys2Proof.Machine
end

