-- ==== Sys2Proof/Machine/Flags.lean ====
section
/-! DEFINITION. The block has no condition flags. What stands in their place: the outputs of a cycle (`10_state.md`
rule R30, `43_fifo_streamer.md` rule R90) and the conditions the environment's inputs meet (rules R36, R38, R61, R103). -/

namespace Sys2Proof.Machine

/-- The bit-clock output pin carries `bclk` (rules R30, R70). -/
def State.bclkPin (s : State) : Bool := s.bclk

/-- The Streamer writes the current data word: `IDLE`, `word_stb = 1`, `room = 1` (rule R92). -/
def State.writesData (s : State) : Bool := s.strState == strIdle && s.wordStb && s.room

/-- The Streamer writes the sentinel: `REPORT_OVERRUN`, `room = 1` (rule R95). -/
def State.writesSentinel (s : State) : Bool := s.strState == strReportOverrun && s.room

/-- `we`, the write port's enable (rules R30, R90). -/
def State.we (s : State) : Bool := s.writesData || s.writesSentinel

/-- `din`, the write port's byte: 0x00 when nothing is written (rule R90). -/
def State.din (s : State) : Byte :=
  if s.writesData then dataByte s.word else if s.writesSentinel then sentinelByte else 0x00

/-- The constraint on room of rule R38: room needs a free slot, and with `ROOM_EXACT` it is a free slot. -/
def State.roomAdmissible (s : State) (room : Bool) : Bool :=
  if s.cfg.roomExact then room == s.hasSlot else !room || s.hasSlot

/-- What is wrong with the current cycle's input, `none` if an environment can present it (rules R36, R38, R61,
R103). -/
def State.inputProblem (s : State) : Option Refusal :=
  if !s.input.wellFormed s.cfg.channels then some .pinsBeyondChannels
  else if !s.roomAdmissible s.room then some .roomBreaksConstraint
  else if s.queue.length < s.input.drain then some .drainBeyondQueue
  else if !Consumer.admits s.cfg.flushThreshold (s.host, s.inFlight) s.hostEvents then
    some .endOfStreamBeforeDelivery
  else none

end Sys2Proof.Machine
end

