-- ==== Sys2Proof/Machine/Ops.lean ====
section
/-! DEFINITION. The named operations: writing each group of registers, the write primitive `FifoWrite`, entering and
leaving an overrun (the block's one exception), and chaining two outcomes. -/

namespace Sys2Proof.Machine

/-- The outcome of a machine operation. -/
abbrev Result := Host.Outcome State Fault Refusal

/-- Go on with the next state; a stop stays a stop. -/
def andThen (r : Result) (k : State → Result) : Result :=
  match r with
  | .next s => k s
  | .fault f => .fault f
  | .refused e => .refused e

/-- Write the Clock Generator's registers (rules R14 to R17). -/
def State.setClock (s : State) (cnt : Nat) (bclk stbR stbF : Bool) : State :=
  { s with cgCnt := cnt, bclk := bclk, stbR := stbR, stbF := stbF }

/-- Write the synchronizer's stages (rules R18, R19). -/
def State.setSync (s : State) (first second : Lanes) : State :=
  { s with sync1 := first, sync2 := second }

/-- Write the Sampling State Machine's state and its strobe (rules R20, R24). -/
def State.setSampling (s : State) (code : StateCode) (stb : Bool) : State :=
  { s with smpState := code, wordStb := stb }

/-- Write the half-registers (rules R21, R22). -/
def State.setHalves (s : State) (rise fall : Lanes) : State :=
  { s with rise := rise, fall := fall }

/-- Write the sample word (rule R23). -/
def State.setWord (s : State) (w : SampleWord) : State :=
  { s with word := w }

/-- Write the cycle counter and its dead latch (rules R25, R26). -/
def State.setCounts (s : State) (count prev : SampleWord) : State :=
  { s with cycCnt := count, cycCntPrev := prev }

/-- Write the Streamer's state (rule R27). -/
def State.setStreamer (s : State) (code : StateCode) : State :=
  { s with strState := code }

/-- Replace the queue (rule R28). -/
def State.setQueue (s : State) (q : List Byte) : State :=
  { s with queue := q }

/-- Replace the transport's bytes and the consumer (rules R103, R104). -/
def State.setHost (s : State) (bytes : List Byte) (c : Consumer) : State :=
  { s with inFlight := bytes, host := c }

/-- Go to the next cycle's number and stimulus (rules R7, R61). -/
def State.nextInput (s : State) : State :=
  { s with cycle := s.cycle + 1, inputs := s.inputs.tail }

/-- `FifoWrite(b)` (`20_memory.md` rule R35): append a byte at the queue's tail. A write with `room = 0` or with
`|Q| = C` faults (`60_exceptions.md` rule R113 c). -/
def fifoWrite (b : Byte) (s : State) : Result :=
  if !s.room then .fault .writeWithoutRoom
  else if !s.hasSlot then .fault .writeToFullQueue
  else .next (s.setQueue (s.queue ++ [b]))

/-- Overrun entry (rule R116): nothing is saved, the word is dropped, and the Streamer holds the pending overrun. -/
def enterOverrun (s : State) : State := s.setStreamer strReportOverrun

/-- Overrun return (rule R118): back to `IDLE`, with no cooldown. -/
def leaveOverrun (s : State) : State := s.setStreamer strIdle

/-- Build a block: the reset state of a legal configuration; any other is refused (rule R114). -/
def build (c : Config) : Except Refusal State :=
  if c.legal then .ok (State.resetWith c) else .error .illegalConfiguration

end Sys2Proof.Machine
end

