-- ==== Sys2Proof/Machine/ClockGenerator.lean ====
section
/-! DEFINITION. The Clock Generator's arms (`40_clock_generator.md` rules R64 to R66). -/

namespace Sys2Proof.Machine

/-- `CG_FALL_RELOAD` (rule R64). -/
def execCgFallReload (s : State) : Result :=
  .next (s.setClock (s.cfg.divisor - 1) false false true)

/-- `CG_RISE` (rule R65). -/
def execCgRise (s : State) : Result :=
  .next (s.setClock (s.cgCnt - 1) true true false)

/-- `CG_COUNT` (rule R66). -/
def execCgCount (s : State) : Result :=
  .next (s.setClock (s.cgCnt - 1) s.bclk false false)

end Sys2Proof.Machine
end

