-- ==== Sys2Proof/Machine/OutputByte.lean ====
section
/-! DEFINITION. The output-byte formats as instructions (`30_encoding.md` rules R56, R57): the write primitive of rule
R35 with that byte on the write port (log entry 8). -/

namespace Sys2Proof.Machine

/-- Write a DATA byte in the format of an `n`-channel build; a build of another channel count has no such row. -/
def writeDataByte (n : Nat) (b : Byte) (s : State) : Result :=
  if s.cfg.channels == n then fifoWrite b s else .refused .dataRowOfOtherChannelCount

/-- `DATA_N3` (rule R56). -/
def execDataN3 (d : BitVec 6) (s : State) : Result := writeDataByte 3 (d.setWidth 8) s

/-- `DATA_N2` (rule R56). -/
def execDataN2 (d : BitVec 4) (s : State) : Result := writeDataByte 2 (d.setWidth 8) s

/-- `DATA_N1` (rule R56). -/
def execDataN1 (d : BitVec 2) (s : State) : Result := writeDataByte 1 (d.setWidth 8) s

/-- `SENTINEL` (rule R57). -/
def execSentinel (s : State) : Result := fifoWrite sentinelByte s

end Sys2Proof.Machine
end

