-- ==== Sys2Proof/Machine/Sampling.lean ====
section
/-! DEFINITION. The Sampling State Machine's arms (`42_sampling_fsm.md` rules R79 to R83, `60_exceptions.md` rule
R113 a). -/

namespace Sys2Proof.Machine

/-- `SMP_REPORT` (rule R79). -/
def execSmpReport (s : State) : Result :=
  .next (((s.setWord (interleave s.cfg.channels s.rise s.fall)).setCounts s.cycCnt s.cycCnt).setSampling
    smpWaitRising true)

/-- `SMP_HOLD_RISE` (rule R80). -/
def execSmpHoldRise (s : State) : Result :=
  .next (s.setSampling s.smpState false)

/-- `SMP_CAPTURE_RISE` (rule R81). -/
def execSmpCaptureRise (s : State) : Result :=
  .next ((s.setHalves s.sync2 s.fall).setSampling smpWaitFalling false)

/-- `SMP_HOLD_FALL` (rule R82). -/
def execSmpHoldFall (s : State) : Result :=
  .next (s.setSampling s.smpState false)

/-- `SMP_CAPTURE_FALL` (rule R83). -/
def execSmpCaptureFall (s : State) : Result :=
  .next (((s.setHalves s.rise s.sync2).setCounts (nextCount s.cfg s.cycCnt) s.cycCntPrev).setSampling smpReport false)

/-- `SMP_UNREACHABLE_FAULT` (rule R113 a): the spec's own meaning is a fault. -/
def execSmpUnreachableFault (_ : State) : Result :=
  .fault .smpStateUnreachable

end Sys2Proof.Machine
end

