-- ==== Sys2Proof/Machine/Streamer.lean ====
section
/-! DEFINITION. The FIFO Streamer's arms (`43_fifo_streamer.md` rules R91 to R96, `60_exceptions.md` rule R113 b). -/

namespace Sys2Proof.Machine

/-- `STR_IDLE_NOP` (rule R91). -/
def execStrIdleNop (s : State) : Result :=
  .next s

/-- `STR_OVERRUN_DETECT` (rule R93): the overrun event. -/
def execStrOverrunDetect (s : State) : Result :=
  .next (enterOverrun s)

/-- `STR_WRITE_DATA` (rule R92). -/
def execStrWriteData (s : State) : Result :=
  andThen (fifoWrite (dataByte s.word) s) fun t => .next (t.setStreamer strWait)

/-- `STR_OVR_HOLD` (rule R94). -/
def execStrOvrHold (s : State) : Result :=
  .next s

/-- `STR_WRITE_SENTINEL` (rule R95). -/
def execStrWriteSentinel (s : State) : Result :=
  andThen (fifoWrite sentinelByte s) fun t => .next (leaveOverrun t)

/-- `STR_WAIT` (rule R96). -/
def execStrWait (s : State) : Result :=
  .next (s.setStreamer strIdle)

/-- `STR_UNREACHABLE_FAULT` (rule R113 b): the spec's own meaning is a fault. -/
def execStrUnreachableFault (_ : State) : Result :=
  .fault .strStateUnreachable

end Sys2Proof.Machine
end

