-- ==== Sys2Proof/Machine/Synchronizer.lean ====
section
/-! DEFINITION. The Input Synchronizer's arm (`41_input_synchronizer.md` rule R72). -/

namespace Sys2Proof.Machine

/-- `SYNC_SHIFT` (rule R72): `sync1 <- pins`, `sync2 <- sync1`. -/
def execSyncShift (s : State) : Result :=
  .next (s.setSync s.pins s.sync1)

end Sys2Proof.Machine
end

