-- ==== Sys2Proof/Machine/Dispatch.lean ====
section
/-! DEFINITION. The meaning of each instruction, one arm per constructor. -/

namespace Sys2Proof.Machine

def exec (i : Instr) (s : State) : Host.Outcome State Fault Refusal :=
  match i with
  | .cgFallReload => Sys2Proof.Machine.execCgFallReload s
  | .cgRise => Sys2Proof.Machine.execCgRise s
  | .cgCount => Sys2Proof.Machine.execCgCount s
  | .syncShift => Sys2Proof.Machine.execSyncShift s
  | .smpReport => Sys2Proof.Machine.execSmpReport s
  | .smpHoldRise => Sys2Proof.Machine.execSmpHoldRise s
  | .smpCaptureRise => Sys2Proof.Machine.execSmpCaptureRise s
  | .smpHoldFall => Sys2Proof.Machine.execSmpHoldFall s
  | .smpCaptureFall => Sys2Proof.Machine.execSmpCaptureFall s
  | .smpUnreachableFault => Sys2Proof.Machine.execSmpUnreachableFault s
  | .strIdleNop => Sys2Proof.Machine.execStrIdleNop s
  | .strOverrunDetect => Sys2Proof.Machine.execStrOverrunDetect s
  | .strWriteData => Sys2Proof.Machine.execStrWriteData s
  | .strOvrHold => Sys2Proof.Machine.execStrOvrHold s
  | .strWriteSentinel => Sys2Proof.Machine.execStrWriteSentinel s
  | .strWait => Sys2Proof.Machine.execStrWait s
  | .strUnreachableFault => Sys2Proof.Machine.execStrUnreachableFault s
  | .dataN3 d => Sys2Proof.Machine.execDataN3 d s
  | .dataN2 d => Sys2Proof.Machine.execDataN2 d s
  | .dataN1 d => Sys2Proof.Machine.execDataN1 d s
  | .sentinel => Sys2Proof.Machine.execSentinel s

end Sys2Proof.Machine
end

