-- ==== Sys2Proof/Machine/Cycle.lean ====
section
/-! DEFINITION. One reference-clock cycle (`00_scope.md` rule R8): the arms the four select vectors choose, run so that
each reads current-cycle values only, and the environment's part of the cycle; and how an instruction is put where the
next cycle takes it (log entries 1, 10, 12). -/

namespace Sys2Proof.Machine

/-- The four arms of a cycle (rule R55). -/
structure Arms where
  clock : Instr
  sync : Instr
  sampling : Instr
  streamer : Instr
  deriving DecidableEq, Repr

/-- The instruction of a decoded value; a value with no row stops the cycle by name. -/
def armOf (d : Except DecodeError Instr) : Option Instr := d.toOption

/-- The arms the current select vectors choose (rules R51 to R55). -/
def State.arms (s : State) : Option Arms :=
  match armOf (decode .cgSelect s.cfg.channels s.cgSelect), armOf (decode .syncSelect s.cfg.channels s.syncSelect),
    armOf (decode .smpSelect s.cfg.channels s.smpSelect), armOf (decode .strSelect s.cfg.channels s.strSelect) with
  | some c, some y, some m, some r => some ⟨c, y, m, r⟩
  | _, _, _, _ => none

/-- Run the four arms. The Streamer reads the Sampling State Machine's registers, that machine the synchronizer's and
the Clock Generator's, and nothing is read the other way: in this order each arm reads the values its operands held
before the cycle (rule R8; log entry 1). -/
def runArms (a : Arms) (s : State) : Result :=
  andThen (exec a.streamer s) fun s1 =>
    andThen (exec a.sampling s1) fun s2 =>
      andThen (exec a.sync s2) fun s3 => exec a.clock s3

/-- The environment's part of a cycle: `k` head bytes leave the queue for the transport (rule R36), the transport's
answers reach the consumer (rules R103 to R111; they deliver bytes removed in earlier cycles, log entry 13), and the
next cycle's input comes up (rule R7). -/
def environment (k : Nat) (es : List HostEvent) (s : State) : State :=
  let h := Consumer.answers s.cfg.flushThreshold s.host s.inFlight es
  ((s.setQueue (s.queue.drop k)).setHost (h.2 ++ s.queue.take k) h.1).nextInput

/-- One cycle of a block and its environment. -/
def State.runCycle (s : State) : Result :=
  if !s.cfg.legal then .refused .illegalConfiguration
  else
    match s.inputProblem with
    | some e => .refused e
    | none =>
      match s.arms with
      | none => .refused .noArmSelected
      | some a => andThen (runArms a s) fun t => .next (environment s.input.drain s.hostEvents t)

/-- A quiet input an environment can present: pins low, room as the queue has it, nothing drained, no answer of the
transport (log entry 10). -/
def State.quietInput (s : State) : Stimulus :=
  { pins := 0, room := s.hasSlot, drain := 0, host := some [] }

/-- Put a stimulus entry in the current cycle's place. -/
def State.present (s : State) (x : Stimulus) : State :=
  { s with inputs := x :: s.inputs.tail }

/-- Make the current cycle's input a stimulus entry: the one that stands there, or a quiet one (log entry 10). -/
def State.presented (s : State) : State :=
  s.present (s.inputs.head?.getD s.quietInput)

/-- Give the current cycle's stimulus entry a room value. -/
def State.presentRoom (s : State) (room : Bool) : State :=
  s.present { s.input with room := room }

/-- Put an instruction where the next cycle takes it: its machine's select vector (rules R51 to R54), or, for an output
byte, the Streamer about to write it; with the cycle's input as a stimulus entry (log entry 10). -/
def State.placing (s : State) (i : Instr) : State :=
  let p := s.presented
  match i with
  | .cgFallReload => { p with cgCnt := 0 }
  | .cgRise => { p with cgCnt := halfPeriod p.cfg }
  | .cgCount => { p with cgCnt := p.cfg.divisor - 1 }
  | .syncShift => p
  | .smpReport => { p with smpState := smpReport }
  | .smpHoldRise => { p with smpState := smpWaitRising, stbR := false }
  | .smpCaptureRise => { p with smpState := smpWaitRising, stbR := true }
  | .smpHoldFall => { p with smpState := smpWaitFalling, stbF := false }
  | .smpCaptureFall => { p with smpState := smpWaitFalling, stbF := true }
  | .smpUnreachableFault => { p with smpState := codeUnreachable }
  | .strIdleNop => { p with strState := strIdle, wordStb := false }
  | .strOverrunDetect => { p.presentRoom false with strState := strIdle, wordStb := true }
  | .strWriteData => { p.presentRoom true with strState := strIdle, wordStb := true }
  | .strOvrHold => { p.presentRoom false with strState := strReportOverrun }
  | .strWriteSentinel => { p.presentRoom true with strState := strReportOverrun }
  | .strWait => { p with strState := strWait }
  | .strUnreachableFault => { p with strState := codeUnreachable }
  | .dataN3 d =>
    { p.presentRoom true with
      cfg := { p.cfg with channels := 3 }, strState := strIdle, wordStb := true, word := d.setWidth 6 }
  | .dataN2 d =>
    { p.presentRoom true with
      cfg := { p.cfg with channels := 2 }, strState := strIdle, wordStb := true, word := d.setWidth 6 }
  | .dataN1 d =>
    { p.presentRoom true with
      cfg := { p.cfg with channels := 1 }, strState := strIdle, wordStb := true, word := d.setWidth 6 }
  | .sentinel => { p.presentRoom true with strState := strReportOverrun }

end Sys2Proof.Machine
end

