-- ==== Sys2Proof/Machine/Step.lean ====
section
/-! DEFINITION. The step: one reference-clock cycle of the block and its environment. -/

namespace Sys2Proof.Machine

def step (s : State) : Host.Outcome State Fault Refusal := s.runCycle

/-- The state in which the next step runs the instruction the decoder reads from a table word (log entries 9, 10); a
word that is no row changes nothing. -/
def State.withFetchWord (s : State) (nbits w : Nat) : State :=
  match decodeTableWord nbits w with
  | some i => s.placing i
  | none => s

end Sys2Proof.Machine
end

