-- ==== Sys2Proof/Machine/Program.lean ====
section
/-! DEFINITION. A program in the stimulus notation of `30_encoding.md` rule R61: a configuration, lines of inputs, and
a number of cycles; its encoding, its start state and its result. -/

namespace Sys2Proof.Machine

/-- One line `@t0[..t1] pins= room= [drain=]`: it holds until the next line's first cycle, so `t1` adds nothing
(rule R61). -/
structure StimulusLine where
  first : Nat
  pins : Lanes
  room : Bool
  drain : Nat := 0
  deriving DecidableEq, Repr

/-- `config`, the lines, and `run T` (rule R61). -/
structure StimulusProgram where
  cfg : Config
  lines : List StimulusLine
  cycles : Nat
  deriving DecidableEq, Repr

/-- The lines start at cycle 0, each after the one before it, and drive no pin beyond the channels. -/
def StimulusProgram.wellFormed (p : StimulusProgram) : Bool :=
  p.cfg.legal && (p.lines.head?.map StimulusLine.first == some 0) &&
    (p.lines.zip p.lines.tail).all (fun x => decide (x.1.first < x.2.first)) &&
    p.lines.all (fun l => decide (l.pins.toNat < 2 ^ p.cfg.channels))

/-- The input of cycle `t`: the last line that starts at or before it. The notation says nothing of the transport's
answers, and rule R103 leaves them free: they are a free draw. DESIGN CHOICE, safe (log entry 22). -/
def StimulusProgram.inputAt (p : StimulusProgram) (t : Nat) : Option Stimulus :=
  (p.lines.reverse.find? (fun l => decide (l.first ≤ t))).map fun l =>
    { pins := l.pins, room := l.room, drain := l.drain, host := none }

/-- The inputs of the cycles 0 to `T - 1`. -/
def StimulusProgram.inputs (p : StimulusProgram) : List Stimulus :=
  (List.range p.cycles).filterMap p.inputAt

/-- The program's encoding: its stimulus words in order. -/
def StimulusProgram.encoding (p : StimulusProgram) : List Byte :=
  p.inputs.map encodeStimulus

/-- The reset state of the program's configuration with its stimulus loaded (rules R61, R128). -/
def StimulusProgram.load (p : StimulusProgram) : State :=
  { State.resetWith p.cfg with inputs := p.inputs }

/-- The queue writes of the next `k` cycles as (cycle, byte), and the state at the end; none if a cycle stops. -/
def writesOver : Nat → State → Option (List (Nat × Byte) × State)
  | 0, s => some ([], s)
  | k + 1, s =>
    match step s with
    | .next t =>
      match writesOver k t with
      | some (ws, u) => some (if s.we then (s.cycle, s.din) :: ws else ws, u)
      | none => none
    | _ => none

/-- A program's result: the writes, and the state at the start of cycle `T` (rule R61). -/
def StimulusProgram.result (p : StimulusProgram) : Option (List (Nat × Byte) × State) :=
  writesOver p.cycles p.load

end Sys2Proof.Machine
end

