-- ==== Sys2Proof/Safety.lean ====
section
/-! DEFINITION. The terms claims use: the invariants of a run (`10_state.md` rule R31 and the timing rules R67, R87,
R98), the next state of a cycle written register by register (`00_scope.md` rule R8), and sums over a run. -/

namespace Sys2Proof.Machine

/-- What rule R31 says of every reachable state, with the bounds on the N-bit and W-bit registers that it rests on. -/
structure State.Inv (s : State) : Prop where
  legal : s.cfg.legal = true
  /-- Rule R31, 1. -/
  count : s.cgCnt < s.cfg.divisor
  /-- Rule R31, 2. -/
  strobes : ¬(s.stbR = true ∧ s.stbF = true)
  /-- Rule R31, 3. -/
  sampling : s.smpState ≠ codeUnreachable
  streamer : s.strState ≠ codeUnreachable
  /-- The widths of rules R18, R19, R21 and R22. -/
  lanes : s.sync1.toNat < 2 ^ s.cfg.channels ∧ s.sync2.toNat < 2 ^ s.cfg.channels ∧
    s.rise.toNat < 2 ^ s.cfg.channels ∧ s.fall.toNat < 2 ^ s.cfg.channels
  /-- Rule R31, 4. -/
  word : s.word.toNat < 2 ^ wordWidth s.cfg
  /-- The widths of rules R25 and R26. -/
  counts : s.cycCnt.toNat < 2 ^ wordWidth s.cfg ∧ s.cycCntPrev.toNat < 2 ^ wordWidth s.cfg
  /-- Rule R31, 5. -/
  strobe : s.wordStb = true → s.smpState = smpWaitRising
  /-- Rule R31, 6. -/
  queue : s.queue.length ≤ s.cfg.capacity

/-- No strobe meets the Streamer's cooldown (rule R98). -/
def State.NoStrobeInWait (s : State) : Prop := s.strState = strWait → s.wordStb = false

/-- The Clock Generator is where the closed form of rule R67 says at cycle `t`. -/
structure State.ClockPhase (s : State) : Prop where
  count : (s.cgCnt : Int) = ((s.cfg.divisor : Int) - 1 - (s.cycle : Int)) % (s.cfg.divisor : Int)
  bclk : s.bclk = decide (s.cfg.divisor - halfPeriod s.cfg ≤ s.cycle % s.cfg.divisor)
  stbR : s.stbR = decide (s.cycle % s.cfg.divisor = s.cfg.divisor - halfPeriod s.cfg)
  stbF : s.stbF = decide (s.cycle % s.cfg.divisor = 0 ∧ s.cfg.divisor ≤ s.cycle)

/-- The Sampling State Machine's state at cycle `t` of a run from reset, for the divisor `d` (rule R87). -/
def loopState (d t : Nat) : StateCode :=
  if t = 0 then smpReport
  else if d = 2 then
    if t % 4 = 3 then smpReport else if t % 4 = 2 then smpWaitFalling else smpWaitRising
  else if t % d = 1 ∧ t ≠ 1 then smpReport
  else if t % d = 0 ∨ d - d / 2 < t % d then smpWaitFalling
  else smpWaitRising

/-- `word_stb` at cycle `t` of a run from reset, for the divisor `d` (rules R87, R88). -/
def loopStrobe (d t : Nat) : Bool :=
  if d = 2 then decide (t = 1 ∨ (t % 4 = 0 ∧ 4 ≤ t))
  else decide (t = 1 ∨ (t % d = 2 ∧ d + 2 ≤ t))

/-- The Clock Generator and the sampling loop are where rules R67 and R87 say at cycle `t`. -/
structure State.LoopPhase (s : State) : Prop where
  clock : s.ClockPhase
  sampling : s.smpState = loopState s.cfg.divisor s.cycle
  strobe : s.wordStb = loopStrobe s.cfg.divisor s.cycle

/-- Exactly one row of a format takes a value, and the instruction is that row's (rule R55). -/
def OnlyRow (f : Format) (n : Nat) (v : Byte) (i : Instr) : Prop :=
  i.format = f ∧ ∃ r, opcodeRows.filter (fun r => r.selects f n v) = [r] ∧ i = r.build v

/-- The session's file is closed exactly once, when the loop is left, and nothing is left in the buffer (rule R109). -/
def Consumer.ClosedOnce (c : Consumer) : Prop :=
  (c.phase = .requesting ∧ c.closes = 0) ∨ (∃ p, c.phase = .exited p ∧ c.closes = 1 ∧ c.buf = [])

/-- `smp_state'` (rules R79 to R83). -/
def State.nextSampling (s : State) : StateCode :=
  if s.smpState = smpReport then smpWaitRising
  else if s.smpState = smpWaitRising then (if s.stbR then smpWaitFalling else smpWaitRising)
  else if s.stbF then smpReport else smpWaitFalling

/-- `str_state'` (rules R91 to R96). -/
def State.nextStreamer (s : State) : StateCode :=
  if s.strState = strIdle then (if s.wordStb then (if s.room then strWait else strReportOverrun) else strIdle)
  else if s.strState = strReportOverrun then (if s.room then strIdle else strReportOverrun)
  else strIdle

/-- The falling capture happens in this cycle (rule R83). -/
def State.capturesFall (s : State) : Bool := s.smpState == smpWaitFalling && s.stbF

/-- The rising capture happens in this cycle (rule R81). -/
def State.capturesRise (s : State) : Bool := s.smpState == smpWaitRising && s.stbR

/-- The whole next state as one function of the current state and the current inputs (rule R8), each register's
next value as its own rule gives it (rules R36, R63 to R66, R72, R79 to R84, R90 to R96). -/
def State.parallelNext (s : State) : State :=
  let h := Consumer.answers s.cfg.flushThreshold s.host s.inFlight s.hostEvents
  { cfg := s.cfg
    cycle := s.cycle + 1
    inputs := s.inputs.tail
    cgCnt := if s.cgCnt = 0 then s.cfg.divisor - 1 else s.cgCnt - 1
    bclk := if s.cgCnt = 0 then false else if s.cgCnt = s.cfg.divisor / 2 then true else s.bclk
    stbR := decide (s.cgCnt = s.cfg.divisor / 2)
    stbF := decide (s.cgCnt = 0)
    sync1 := s.pins
    sync2 := s.sync1
    smpState := s.nextSampling
    rise := if s.capturesRise then s.sync2 else s.rise
    fall := if s.capturesFall then s.sync2 else s.fall
    word := if s.smpState = smpReport then interleave s.cfg.channels s.rise s.fall else s.word
    wordStb := decide (s.smpState = smpReport)
    cycCnt := if s.capturesFall then nextCount s.cfg s.cycCnt else s.cycCnt
    cycCntPrev := if s.smpState = smpReport then s.cycCnt else s.cycCntPrev
    strState := s.nextStreamer
    queue := s.queue.drop s.input.drain ++ (if s.we then [s.din] else [])
    inFlight := h.2 ++ s.queue.take s.input.drain
    host := h.1 }

/-- The sum of a value over the cycles of a run of `k` steps, up to a stop. -/
def sumOver (f : State → Nat) : Nat → State → Nat
  | 0, _ => 0
  | k + 1, s =>
    f s + match step s with
      | .next t => sumOver f k t
      | _ => 0

/-- How many of the next `k` cycles meet a condition. -/
def countOver (p : State → Bool) (k : Nat) (s : State) : Nat := sumOver (fun u => if p u then 1 else 0) k s

/-- The Streamer takes the given arm in the current cycle (rule R55). -/
def State.streamerTakes (s : State) (i : Instr) : Bool :=
  armOf (decode .strSelect s.cfg.channels s.strSelect) == some i

/-- 1 if an overrun is pending, else 0 (rule R27). -/
def State.pendingOverrun (s : State) : Nat := if s.strState = strReportOverrun then 1 else 0

/-- The Clock Generator, the synchronizer and the Sampling State Machine hold the same values, and the
configuration is the same. -/
structure State.SamplesAlike (s u : State) : Prop where
  cfg : s.cfg = u.cfg
  clock : s.cgCnt = u.cgCnt ∧ s.bclk = u.bclk ∧ s.stbR = u.stbR ∧ s.stbF = u.stbF
  sync : s.sync1 = u.sync1 ∧ s.sync2 = u.sync2
  sampling : s.smpState = u.smpState ∧ s.wordStb = u.wordStb
  halves : s.rise = u.rise ∧ s.fall = u.fall
  word : s.word = u.word
  counts : s.cycCnt = u.cycCnt ∧ s.cycCntPrev = u.cycCntPrev

end Sys2Proof.Machine
end

