-- ==== Sys2Proof/Certificates/Slice0/Obligations.lean ====
section
/-! DEFINITION. The statements for the provers. Each docstring names the rule of spec/ a statement formalises; where a
statement rests on a choice the spec marks as its own decision (D1 to D28), the docstring says so. -/

open Sys2Proof Sys2Proof.Machine

/-! ## Encodings -/

/-- Decoding the encoding of an instruction of an `n`-channel build gives the instruction back, every operand at every
value (`30_encoding.md` sections 3 and 4; the select vectors are decision D1's). -/
def Obligations.DecodeOfEncodeIsTheInstruction : Prop :=
  ∀ (i : Instr) (n : Nat), i.wellFormed n = true → decode i.format n (encode i) = .ok i

/-- A value that decodes to an instruction is in that instruction's format, the instruction belongs to the build, and
the value agrees with its encoding in every bit the row fixes (rule R55's inference). -/
def Obligations.DecodedValueMatchesItsEncoding : Prop :=
  ∀ (f : Format) (n : Nat) (v : Byte) (i : Instr), decode f n v = .ok i →
    i.format = f ∧ i.wellFormed n = true ∧ v &&& i.fixedBits = encode i &&& i.fixedBits

/-- In every state of a legal configuration, reachable or not, exactly one row of each machine's format takes the
machine's select vector, and the cycle's arm of that machine is that row's instruction (rule R55's inference). -/
def Obligations.EverySelectVectorPicksOneRow : Prop :=
  ∀ s : State, s.cfg.legal = true →
    ∃ a, s.arms = some a ∧
      OnlyRow .cgSelect s.cfg.channels s.cgSelect a.clock ∧ OnlyRow .syncSelect s.cfg.channels s.syncSelect a.sync ∧
      OnlyRow .smpSelect s.cfg.channels s.smpSelect a.sampling ∧ OnlyRow .strSelect s.cfg.channels s.strSelect a.streamer

/-- A few values of each format, from the spec's patterns (a sanity statement). -/
def Obligations.WordsOfEachFormatDecode : Prop :=
  decode .cgSelect 3 0b10 = .ok .cgFallReload ∧ decode .cgSelect 3 0b01 = .ok .cgRise ∧
  decode .cgSelect 3 0b11 = .error .bothComparesHold ∧
  decode .syncSelect 3 0 = .ok .syncShift ∧
  decode .smpSelect 3 0b0111 = .ok .smpCaptureRise ∧ decode .smpSelect 3 0b1011 = .ok .smpCaptureFall ∧
  decode .strSelect 3 0b0010 = .ok .strOverrunDetect ∧ decode .strSelect 3 0b0111 = .ok .strWriteSentinel ∧
  decode .streamByte 3 0b00111000 = .ok (.dataN3 0b111000) ∧ decode .streamByte 2 0b00001111 = .ok (.dataN2 0b1111) ∧
  decode .streamByte 1 0b00000100 = .error (.reservedByte 0b00000100) ∧
  decode .streamByte 1 0b11111111 = .ok .sentinel

/-- A reader of the stream gets back from a DATA byte the N-bit rising and falling values it was packed from. -/
def Obligations.DataByteReadsBackItsSamples : Prop :=
  ∀ (n : Nat) (r f : Lanes), 1 ≤ n → n ≤ 3 →
    readStreamByte n (dataByte (interleave n r f)) = .data (narrow n r) (narrow n f)

/-- In an N-channel stream 0xFF is the sentinel, a byte below `2^W` is DATA, and every other byte is invalid
(decision D13's verdict). -/
def Obligations.StreamBytesAreDataSentinelOrInvalid : Prop :=
  ∀ (n : Nat) (b : Byte), 1 ≤ n → n ≤ 3 →
    (readStreamByte n b = .overrun ↔ b = 0xFF) ∧
    ((∃ r f, readStreamByte n b = .data r f) ↔ b.toNat < 2 ^ (2 * n)) ∧
    (readStreamByte n b = .invalid ↔ 2 ^ (2 * n) ≤ b.toNat ∧ b ≠ 0xFF)

/-- The stimulus word carries room and pins and nothing else; it decodes exactly when no pin beyond the channels is
driven (decision D14's notation). Drain is then its default 0, and the transport's answers are not given, which is log
entry 22 (DESIGN CHOICE). -/
def Obligations.StimulusWordCarriesRoomAndPins : Prop :=
  ∀ (n : Nat) (x : Stimulus),
    (x.wellFormed n = true → decodeStimulus n (encodeStimulus x) = .ok { x with drain := 0, host := none }) ∧
    (x.wellFormed n = false → decodeStimulus n (encodeStimulus x) = .error .pinsBeyondChannels) ∧
    (encodeStimulus x).getLsbD 7 = x.room ∧ (∀ j < 3, (encodeStimulus x).getLsbD j = x.pins.getLsbD j) ∧
    ∀ j, 3 ≤ j → j < 7 → (encodeStimulus x).getLsbD j = false

/-- The bit order inside a byte (`20_memory.md` rule R39). -/
def Obligations.InterleavePlacesEachChannel : Prop :=
  ∀ (n : Nat) (r f : Lanes), n ≤ 3 →
    (∀ i < n, (dataByte (interleave n r f)).getLsbD (2 * i) = r.getLsbD i ∧
      (dataByte (interleave n r f)).getLsbD (2 * i + 1) = f.getLsbD i) ∧
    (∀ j, 2 * n ≤ j → (dataByte (interleave n r f)).getLsbD j = false) ∧
    ∀ j < 8, sentinelByte.getLsbD j = true

/-! ## The Clock Generator's arms (rules R64 to R66; the circuit is decision D3's) -/

/-- `CG_FALL_RELOAD` at `cg_select = 0b10`. -/
def Obligations.ClockFallReloadWritesItsRegisters : Prop :=
  ∀ s : State, s.cgSelect = 0b10 →
    s.cgCnt = 0 ∧
    exec .cgFallReload s = .next { s with cgCnt := s.cfg.divisor - 1, bclk := false, stbF := true, stbR := false }

/-- `CG_RISE` at `cg_select = 0b01`: the counter is at `H` and goes to `H - 1`. -/
def Obligations.ClockRiseWritesItsRegisters : Prop :=
  ∀ s : State, s.cgSelect = 0b01 →
    s.cgCnt = s.cfg.divisor / 2 ∧
    exec .cgRise s = .next { s with cgCnt := s.cfg.divisor / 2 - 1, bclk := true, stbR := true, stbF := false }

/-- `CG_COUNT` at `cg_select = 0b00`: the counter is at least 1 and goes down by exactly 1; `bclk` keeps its value. -/
def Obligations.ClockCountDecrements : Prop :=
  ∀ s : State, s.cgSelect = 0b00 →
    ∃ k, s.cgCnt = k + 1 ∧ exec .cgCount s = .next { s with cgCnt := k, stbR := false, stbF := false }

/-! ## The Input Synchronizer's arm -/

/-- `SYNC_SHIFT` (rule R72), in every state: both stages move on, every channel on its own, and nothing else changes;
and it is taken in every cycle. -/
def Obligations.SynchronizerShifts : Prop :=
  ∀ s : State,
    exec .syncShift s = .next { s with sync1 := s.pins, sync2 := s.sync1 } ∧
    (∀ i < 3, s.pins.getLsbD i = (decide (i < s.cfg.channels) && s.input.pins.getLsbD i)) ∧
    ∀ t, step s = .next t → t.sync1 = s.pins ∧ t.sync2 = s.sync1

/-! ## The Sampling State Machine's arms (rules R79 to R83) -/

/-- `SMP_REPORT` at `smp_select = 00--` (the registered strobe is decision D6's, the latch D7's). -/
def Obligations.ReportLatchesTheWord : Prop :=
  ∀ s : State, s.smpSelect &&& 0xC = 0x0 →
    exec .smpReport s = .next { s with
      word := interleave s.cfg.channels s.rise s.fall, wordStb := true, cycCntPrev := s.cycCnt, smpState := 0b01 }

/-- `SMP_HOLD_RISE` at `smp_select = 010-`. -/
def Obligations.HoldRiseRemains : Prop :=
  ∀ s : State, s.smpSelect &&& 0xE = 0x4 →
    s.smpState = 0b01 ∧ s.stbR = false ∧ exec .smpHoldRise s = .next { s with wordStb := false }

/-- `SMP_CAPTURE_RISE` at `smp_select = 011-`. -/
def Obligations.CaptureRiseTakesTheSynchronizedInput : Prop :=
  ∀ s : State, s.smpSelect &&& 0xE = 0x6 →
    exec .smpCaptureRise s = .next { s with rise := s.sync2, wordStb := false, smpState := 0b10 }

/-- `SMP_HOLD_FALL` at `smp_select = 10-0`. -/
def Obligations.HoldFallRemains : Prop :=
  ∀ s : State, s.smpSelect &&& 0xD = 0x8 →
    s.smpState = 0b10 ∧ s.stbF = false ∧ exec .smpHoldFall s = .next { s with wordStb := false }

/-- `SMP_CAPTURE_FALL` at `smp_select = 10-1`: the cycle counter counts modulo `2^W` (decision D7). -/
def Obligations.CaptureFallTakesTheInputAndCounts : Prop :=
  ∀ s : State, s.smpSelect &&& 0xD = 0x9 →
    ∃ k : SampleWord,
      (s.cfg.channels ≤ 3 → k.toNat = (s.cycCnt.toNat + 1) % 2 ^ (2 * s.cfg.channels)) ∧
      exec .smpCaptureFall s = .next { s with fall := s.sync2, cycCnt := k, wordStb := false, smpState := 0b00 }

/-- The two fault rows stop with their fault in every state (rule R113 a and b, decision D22). -/
def Obligations.UnreachableRowsFault : Prop :=
  ∀ s : State,
    exec .smpUnreachableFault s = .fault .smpStateUnreachable ∧
    exec .strUnreachableFault s = .fault .strStateUnreachable

/-! ## The Streamer's arms (rules R91 to R96) -/

/-- `STR_IDLE_NOP` at `str_select = 000-`. -/
def Obligations.IdleNopChangesNothing : Prop :=
  ∀ s : State, s.strSelect &&& 0xE = 0x0 →
    s.strState = 0b00 ∧ s.we = false ∧ s.din = 0x00 ∧ exec .strIdleNop s = .next s

/-- `STR_OVERRUN_DETECT` at `str_select = 0010`: the word is dropped and the overrun held. -/
def Obligations.OverrunDetectDropsTheWord : Prop :=
  ∀ s : State, s.strSelect = 0x2 →
    s.we = false ∧ s.din = 0x00 ∧ exec .strOverrunDetect s = .next { s with strState := 0b01 }

/-- `STR_WRITE_DATA` at `str_select = 0011`, the queue with a free slot (rule R38): the word's byte is written in this
cycle; a word of `W` bits is never the sentinel. -/
def Obligations.WriteDataAppendsTheWord : Prop :=
  ∀ s : State, s.strSelect = 0x3 → s.queue.length < s.cfg.capacity →
    s.we = true ∧ s.din = s.word.setWidth 8 ∧ s.din ≠ 0xFF ∧
    exec .strWriteData s = .next { s with queue := s.queue ++ [s.word.setWidth 8], strState := 0b10 }

/-- `STR_OVR_HOLD` at `str_select = 01-0`. -/
def Obligations.OverrunHoldChangesNothing : Prop :=
  ∀ s : State, s.strSelect &&& 0xD = 0x4 →
    s.strState = 0b01 ∧ s.we = false ∧ s.din = 0x00 ∧ exec .strOvrHold s = .next s

/-- `STR_WRITE_SENTINEL` at `str_select = 01-1`, the queue with a free slot (rule R38): 0xFF is written in this cycle,
whatever `word_stb` is, and no cooldown follows. -/
def Obligations.WriteSentinelAppendsTheSentinel : Prop :=
  ∀ s : State, s.strSelect &&& 0xD = 0x5 → s.queue.length < s.cfg.capacity →
    s.we = true ∧ s.din = 0xFF ∧
    exec .strWriteSentinel s = .next { s with queue := s.queue ++ [0xFF], strState := 0b00 }

/-- `STR_WAIT` at `str_select = 10--`. -/
def Obligations.WaitReturnsToIdle : Prop :=
  ∀ s : State, s.strSelect &&& 0xC = 0x8 →
    s.we = false ∧ s.din = 0x00 ∧ exec .strWait s = .next { s with strState := 0b00 }

/-! ## The output bytes (rules R56, R57; that they are instructions is the model's, log entry 8) -/

/-- Each DATA row, in its own build, with room and a free slot, appends its byte, the bits above `W` 0. -/
def Obligations.DataRowsAppendTheirByte : Prop :=
  ∀ s : State, s.room = true → s.queue.length < s.cfg.capacity →
    (s.cfg.channels = 3 → ∀ d : BitVec 6,
      exec (.dataN3 d) s = .next { s with queue := s.queue ++ [(0b00 : BitVec 2) ++ d] }) ∧
    (s.cfg.channels = 2 → ∀ d : BitVec 4,
      exec (.dataN2 d) s = .next { s with queue := s.queue ++ [(0b0000 : BitVec 4) ++ d] }) ∧
    (s.cfg.channels = 1 → ∀ d : BitVec 2,
      exec (.dataN1 d) s = .next { s with queue := s.queue ++ [(0b000000 : BitVec 6) ++ d] })

/-- The sentinel row, with room and a free slot, appends 0xFF; and no DATA row's byte has bit 7 set, so none is 0xFF. -/
def Obligations.SentinelAppendsAndNoDataByteIsIt : Prop :=
  (∀ s : State, s.room = true → s.queue.length < s.cfg.capacity →
    exec .sentinel s = .next { s with queue := s.queue ++ [0xFF] }) ∧
  ∀ (i : Instr), i.format = .streamByte → i ≠ .sentinel → (encode i).getLsbD 7 = false ∧ encode i ≠ 0xFF

/-- A queue write without room, and one to a full queue, faults, whichever row makes it. The fault is rule R113 c's
(decision D22). That SENTINEL and the DATA rows make a queue write is the model's DESIGN CHOICE (log entry 8), and so is
what a write arm does outside its select value, as at room 0 (log entry 19). -/
def Obligations.WritesWithoutRoomFault : Prop :=
  ∀ (s : State) (i : Instr),
    (i = .strWriteData ∨ i = .strWriteSentinel ∨ (i.format = .streamByte ∧ i.wellFormed s.cfg.channels = true)) →
    (s.room = false → exec i s = .fault .writeWithoutRoom) ∧
    (s.room = true → s.cfg.capacity ≤ s.queue.length → exec i s = .fault .writeToFullQueue)

/-- `STR_WRITE_DATA` is the DATA row of its byte followed by the move to `WAIT`, in a build of each channel count whose
word has `W` bits (rules R56 and R92 together). That a byte row has a meaning of its own is the model's DESIGN CHOICE
(log entry 8). -/
def Obligations.WriteDataIsADataRowThenWait : Prop :=
  ∀ s : State, s.word.toNat < 2 ^ (2 * s.cfg.channels) → 1 ≤ s.cfg.channels → s.cfg.channels ≤ 3 →
    ∃ i : Instr, decode .streamByte s.cfg.channels (dataByte s.word) = .ok i ∧ i ≠ .sentinel ∧
      exec .strWriteData s = andThen (exec i s) (fun t => .next { t with strState := 0b10 })

/-! ## The whole machine -/

/-- Each register has one writer, the machine that owns it, and no arm touches the configuration, the stimulus, the
transport or the host (rule R11's second half; the row formats are decision D1's). -/
def Obligations.EachRegisterHasOneWriter : Prop :=
  ∀ (i : Instr) (s t : State), exec i s = .next t →
    (i.format ≠ .cgSelect → t.cgCnt = s.cgCnt ∧ t.bclk = s.bclk ∧ t.stbR = s.stbR ∧ t.stbF = s.stbF) ∧
    (i.format ≠ .syncSelect → t.sync1 = s.sync1 ∧ t.sync2 = s.sync2) ∧
    (i.format ≠ .smpSelect → t.smpState = s.smpState ∧ t.rise = s.rise ∧ t.fall = s.fall ∧ t.word = s.word ∧
      t.wordStb = s.wordStb ∧ t.cycCnt = s.cycCnt ∧ t.cycCntPrev = s.cycCntPrev) ∧
    (i.format ≠ .strSelect → t.strState = s.strState) ∧
    (i.format ≠ .strSelect → i.format ≠ .streamByte → t.queue = s.queue) ∧
    (t.cfg = s.cfg ∧ t.cycle = s.cycle ∧ t.inputs = s.inputs ∧ t.inFlight = s.inFlight ∧ t.host = s.host)

/-- A step runs the four decoded arms, the Streamer's first, each through `exec`, and then the environment's part of
the cycle, which leaves the registers and removes bytes only (log entries 1 and 12; the transport, log entry 13). -/
def Obligations.StepRunsTheDecodedArms : Prop :=
  ∀ (s : State) (c y m r : Instr), s.cfg.legal = true → s.inputProblem = none →
    decode .cgSelect s.cfg.channels s.cgSelect = .ok c → decode .syncSelect s.cfg.channels s.syncSelect = .ok y →
    decode .smpSelect s.cfg.channels s.smpSelect = .ok m → decode .strSelect s.cfg.channels s.strSelect = .ok r →
    step s = andThen (exec r s) fun s1 => andThen (exec m s1) fun s2 => andThen (exec y s2) fun s3 =>
      andThen (exec c s3) fun s4 => .next (environment s.input.drain s.hostEvents s4)

/-- Rule R8 (decision D2): the step equals one function that computes every register's next value from the current
state and the current inputs, so every arm reads current-cycle values only. The whole next state includes the queue
(`20_memory.md` section 2), and the bytes in flight and the consumer (`48_host_consumer.md` section 2), whose timing is the
model's choice (log entry 13, DESIGN CHOICE). -/
def Obligations.StepComputesTheNextStateAtOnce : Prop :=
  ∀ s : State, s.cfg.legal = true → s.inputProblem = none → s.smpState ≠ 0b11 → s.strState ≠ 0b11 →
    step s = .next s.parallelNext

/-- An illegal configuration is refused, by the build and by every step (rule R114, decision D15). The positive
`FLUSH_THRESHOLD`, `F_REF` and `F_TARGET` are rule R5's, checked with the others by log entry 21 (DEDUCED). -/
def Obligations.IllegalConfigurationIsRefused : Prop :=
  ∀ c : Config,
    ¬((c.channels = 1 ∨ c.channels = 2 ∨ c.channels = 3) ∧ 2 ≤ c.divisor ∧ 1 ≤ c.capacity ∧
      1 ≤ c.flushThreshold ∧ 0 < c.fRef ∧ 0 < c.fTarget) →
    build c = .error .illegalConfiguration ∧
    ∀ s : State, s.cfg = c → step s = .refused .illegalConfiguration

/-- A legal configuration builds the reset state of rule R128, each register at the value its rule gives
(decisions D3, D5 to D8, D10). -/
def Obligations.BuildGivesTheResetState : Prop :=
  ∀ c : Config, c.legal = true →
    ∃ s, build c = .ok s ∧ s.cfg = c ∧ s.cgCnt = c.divisor - 1 ∧ s.bclk = false ∧ s.stbR = false ∧ s.stbF = false ∧
      s.sync1 = 0 ∧ s.sync2 = 0 ∧ s.smpState = 0b00 ∧ s.rise = 0 ∧ s.fall = 0 ∧ s.word = 0 ∧ s.wordStb = false ∧
      s.cycCnt = 0 ∧ s.cycCntPrev = 0 ∧ s.strState = 0b00 ∧ s.queue = []

/-- The first cycle of any run from reset makes the all-zero word ready and writes nothing (rule R88's inference). -/
def Obligations.FirstWordAfterResetIsZero : Prop :=
  ∀ (c : Config) (xs : List Stimulus) (t : State), step { State.resetWith c with inputs := xs } = .next t →
    t.cycle = 1 ∧ t.word = 0 ∧ t.wordStb = true ∧ t.smpState = 0b01 ∧ t.strState = 0b00 ∧ t.queue = []

/-- The invariants hold at the reset state of every legal configuration. -/
def Obligations.ResetMeetsTheInvariants : Prop :=
  ∀ c : Config, c.legal = true →
    (State.resetWith c).Inv ∧ (State.resetWith c).NoStrobeInWait ∧ (State.resetWith c).LoopPhase ∧
    (State.resetWith c).host.ClosedOnce

/-- Every step keeps what rule R31 says of every reachable state. -/
def Obligations.EveryStepKeepsTheInvariant : Prop :=
  ∀ s t : State, s.Inv → step s = .next t → t.Inv

/-- From a state that meets the invariant, with an input an environment can present, the step goes on: no fault and no
refusal. -/
def Obligations.StepGoesOnUnderTheInvariant : Prop :=
  ∀ s : State, s.Inv → s.inputProblem = none → ∃ t, step s = .next t

/-- With no stimulus left, the drawn inputs are always ones an environment can present (rules R36, R38, R103): the model's
free draws never stop a run (log entries 4 and 22). -/
def Obligations.FreeDrawsAreAdmissible : Prop :=
  ∀ s : State, s.cfg.legal = true → s.inputs = [] → s.inputProblem = none

/-- With a legal configuration and an admissible input, a step faults exactly in the unreachable state codes (rule
R113, decision D22; which of two faults is named first is log entry 11's choice). -/
def Obligations.StepFaultsExactlyAtUnreachableCodes : Prop :=
  ∀ (s : State) (f : Fault), s.cfg.legal = true → s.inputProblem = none →
    (step s = .fault f ↔
      (s.strState = 0b11 ∧ f = .strStateUnreachable) ∨
      (s.strState ≠ 0b11 ∧ s.smpState = 0b11 ∧ f = .smpStateUnreachable))

/-- Every step keeps the closed form of the Clock Generator, rule R67 (decision D3's circuit). -/
def Obligations.EveryStepKeepsTheClockPhase : Prop :=
  ∀ s t : State, s.ClockPhase → step s = .next t → t.ClockPhase

/-- Each strobe is 1 in exactly one of any `D` cycles that start at cycle 1 or later, and the two are never 1 together
(rule R68's inference). -/
def Obligations.StrobesFireOncePerPeriod : Prop :=
  ∀ s t : State, s.ClockPhase → 1 ≤ s.cycle → Host.Core.run Sys2Proof.core s.cfg.divisor s = .next t →
    countOver State.stbR s.cfg.divisor s = 1 ∧ countOver State.stbF s.cfg.divisor s = 1 ∧
    countOver (fun u => u.stbR && u.stbF) s.cfg.divisor s = 0

/-- Every step keeps the sampling loop's timing, rule R87, for `D = 2` and for `D ≥ 3`. -/
def Obligations.EveryStepKeepsTheLoopPhase : Prop :=
  ∀ s t : State, s.LoopPhase → step s = .next t → t.LoopPhase

/-- No strobe ever reaches the Streamer's cooldown (rule R98's inference). -/
def Obligations.NoStrobeReachesTheCooldown : Prop :=
  ∀ s t : State, s.Inv → s.NoStrobeInWait → step s = .next t → t.NoStrobeInWait

/-- `word_stb` is 1 in exactly the cycle after a `REPORT` cycle, and the word then is the interleave of the half-registers
as they stood in it (rules R84 and R86; the registered strobe is decision D6's). -/
def Obligations.WordStrobeFollowsReport : Prop :=
  ∀ s t : State, step s = .next t →
    (t.wordStb = true ↔ s.smpState = 0b00) ∧
    (t.wordStb = true → t.word = interleave s.cfg.channels s.rise s.fall) ∧
    (t.wordStb = false → t.word = s.word)

/-- The synchronizer's output is the pins of two cycles before (rule R73's inference). -/
def Obligations.SynchronizerDelaysByTwoCycles : Prop :=
  ∀ s t u : State, step s = .next t → step t = .next u → u.sync2 = s.pins ∧ t.sync2 = s.sync1

/-- The queue and the transport over one cycle. The removed head bytes leave the queue (rule R36, decision D10; the bound
on drain is log entry 5's), and the write port's byte, if one is written, stands at the tail (rule R35), which needs room
and a slot. The host receives in order exactly the bytes removed: what its chunks deliver in this cycle is the first part
of the bytes in flight, the rest stays, and the removed bytes follow it (log entry 13, DESIGN CHOICE). -/
def Obligations.QueueTakesTheWrittenByte : Prop :=
  ∀ s t : State, step s = .next t →
    let answered := Consumer.answers s.cfg.flushThreshold s.host s.inFlight s.hostEvents
    s.input.drain ≤ s.queue.length ∧
    t.queue = s.queue.drop s.input.drain ++ (if s.we then [s.din] else []) ∧
    (s.we = true → s.room = true ∧ s.queue.length < s.cfg.capacity) ∧
    t.host = answered.1 ∧ t.inFlight = answered.2 ++ s.queue.take s.input.drain ∧
    Consumer.delivered s.cfg.flushThreshold (s.host, s.inFlight) s.hostEvents ++ answered.2 = s.inFlight

/-- What an environment can present, said without the checks of the cycle. A step that goes on had pins within the channels
(rule R61), room only with a free slot and, with `ROOM_EXACT`, room exactly with a free slot (rule R38), a removal of bytes
the queue holds (rule R36), and, where the stream ended normally in it, nothing in flight but the bytes it removed (rule
R103). Against one of these the cycle is refused by its name, the first in this order (log entries 5, 11 and 23, the
model's); with none of them, and no unreachable code, it goes on. -/
def Obligations.InputsKeepTheEnvironmentsConstraints : Prop :=
  ∀ s : State, s.cfg.legal = true →
    let badPins := 2 ^ s.cfg.channels ≤ s.input.pins.toNat
    let badRoom := (s.input.room = true ∧ s.cfg.capacity ≤ s.queue.length) ∨
      (s.cfg.roomExact = true ∧ s.input.room = false ∧ s.queue.length < s.cfg.capacity)
    let badDrain := s.queue.length < s.input.drain
    let badEnd := ∃ first e last, s.hostEvents = first ++ e :: last ∧ e.result = .endOfStream ∧
      (Consumer.answers s.cfg.flushThreshold s.host s.inFlight first).1.phase = .requesting ∧
      (Consumer.answers s.cfg.flushThreshold s.host s.inFlight first).2 ≠ []
    (badPins → step s = .refused .pinsBeyondChannels) ∧
    (¬badPins → badRoom → step s = .refused .roomBreaksConstraint) ∧
    (¬badPins → ¬badRoom → badDrain → step s = .refused .drainBeyondQueue) ∧
    (¬badPins → ¬badRoom → ¬badDrain → badEnd → step s = .refused .endOfStreamBeforeDelivery) ∧
    (¬badPins → ¬badRoom → ¬badDrain → ¬badEnd → s.smpState ≠ 0b11 → s.strState ≠ 0b11 → ∃ t, step s = .next t) ∧
    ∀ t, step s = .next t →
      s.input.pins.toNat < 2 ^ s.cfg.channels ∧ (s.input.room = true → s.queue.length < s.cfg.capacity) ∧
      (s.cfg.roomExact = true → (s.input.room = true ↔ s.queue.length < s.cfg.capacity)) ∧
      s.input.drain ≤ s.queue.length ∧
      (s.host.phase = .requesting → t.host.phase = .exited .endOfStream → t.inFlight = s.queue.take s.input.drain)

/-- A pending overrun stays, and nothing is written, while room does not return; the first cycle with room writes the
sentinel and ends it (rule R118). -/
def Obligations.OverrunHoldsUntilRoomThenSentinel : Prop :=
  ∀ (k : Nat) (s t : State), s.strState = 0b01 →
    (∀ i < k, ∀ u, Host.Core.run Sys2Proof.core i s = .next u → State.room u = false) →
    Host.Core.run Sys2Proof.core k s = .next t →
    t.strState = 0b01 ∧ countOver State.we k s = 0 ∧
    ∀ v : State, State.room t = true → step t = .next v →
      State.we t = true ∧ State.din t = 0xFF ∧ v.strState = 0b00

/-- Bytes and overruns are accounted for over any run (rule R99's inference): every detected overrun is reported by one
sentinel or still pending, and every byte written is one data word or one sentinel. -/
def Obligations.OverrunsAndBytesAreAccountedFor : Prop :=
  ∀ (k : Nat) (s t : State), Host.Core.run Sys2Proof.core k s = .next t →
    countOver (fun u => u.streamerTakes .strOverrunDetect) k s + s.pendingOverrun =
      countOver (fun u => u.streamerTakes .strWriteSentinel) k s + State.pendingOverrun t ∧
    (State.queue t).length + sumOver (fun u => u.input.drain) k s =
      s.queue.length + countOver (fun u => u.streamerTakes .strWriteData) k s +
        countOver (fun u => u.streamerTakes .strWriteSentinel) k s

/-- If room is present at every strobe, every strobe writes its data word and no sentinel appears (rule R101 a's
inference). -/
def Obligations.RoomAtEveryStrobeMeansNoOverrun : Prop :=
  ∀ (k : Nat) (s t : State), s.Inv → s.NoStrobeInWait → s.strState ≠ 0b01 →
    (∀ i < k, ∀ u, Host.Core.run Sys2Proof.core i s = .next u → State.wordStb u = true → State.room u = true) →
    Host.Core.run Sys2Proof.core k s = .next t →
    countOver (fun u => u.streamerTakes .strWriteData) k s = countOver State.wordStb k s ∧
    countOver (fun u => u.streamerTakes .strOverrunDetect) k s = 0 ∧
    countOver (fun u => u.streamerTakes .strWriteSentinel) k s = 0

/-- No field of the configuration is written while the block runs (rule R13). -/
def Obligations.ConfigurationIsNeverWritten : Prop :=
  ∀ (k : Nat) (s t : State), Host.Core.run Sys2Proof.core k s = .next t → State.cfg t = s.cfg

/-- No backpressure (rule R116): the Clock Generator, the synchronizer and the Sampling State Machine go on alike,
whatever the Streamer's state, the queue, room, the drain and the host are. -/
def Obligations.SamplingIgnoresTheStreamer : Prop :=
  ∀ s t u v : State, s.SamplesAlike u → s.pins = u.pins → step s = .next t → step u = .next v → t.SamplesAlike v

/-- The two dead counters reach no output (rule R85): a run that differs in them alone gives the same outputs and next
states that differ in them alone. -/
def Obligations.CycleCountersFeedNoOutput : Prop :=
  ∀ (s t : State) (k p : SampleWord), step s = .next t →
    (∃ k' p', step { s with cycCnt := k, cycCntPrev := p } = .next { t with cycCnt := k', cycCntPrev := p' }) ∧
    (s.setCounts k p).we = s.we ∧ (s.setCounts k p).din = s.din ∧ (s.setCounts k p).bclkPin = s.bclkPin

/-- The host's state and the bytes in flight change nothing in the block (`48_host_consumer.md` section 1), as long as the
transport's answers of the cycle are ones it can give to the changed host (rule R103; else the cycle is refused, log
entries 5 and 23). -/
def Obligations.HostNeverChangesTheBlock : Prop :=
  ∀ (s t : State) (b : List Byte) (c : Consumer), step s = .next t →
    let u : State := { s with inFlight := b, host := c }
    (Consumer.admits s.cfg.flushThreshold (c, b) u.hostEvents = true →
      ∃ b' c', step u = .next { t with inFlight := b', host := c' }) ∧
    (Consumer.admits s.cfg.flushThreshold (c, b) u.hostEvents = false →
      step u = .refused .endOfStreamBeforeDelivery)

/-! ## The host consumer (environment) -/

/-- An empty chunk changes nothing (rule R106). -/
def Obligations.EmptyChunkChangesNothing : Prop :=
  ∀ (threshold : Nat) (c : Consumer) (bytes : List Byte) (e : HostEvent),
    (e.result = .chunk 0 ∨ (bytes = [] ∧ ∃ n, e.result = .chunk n)) →
    Consumer.answer threshold (c, bytes) e = (c, bytes)

/-- A chunk that holds 0xFF: the bytes before the first one are kept, "overrun" is logged and the loop is left (rule
R107); the buffer goes to the file and the file is closed (rule R109); and no answer after it changes anything (log entry
16, DEDUCED). The exit write succeeds; `EndingAnswersLeaveTheFileClosed` has the failing one. -/
def Obligations.SentinelChunkEndsTheSession : Prop :=
  ∀ (threshold : Nat) (c : Consumer) (good trail : List Byte) (e : HostEvent), (0xFF : Byte) ∉ good →
    e.exitWriteFails = false →
    let d := c.takeChunk threshold (good ++ 0xFF :: trail) e
    d.file = c.file ++ c.buf ++ good ∧ d.buf = [] ∧ d.log = c.log ++ [.overrun] ∧ d.phase = .exited .overrun ∧
    d.closes = c.closes + 1 ∧
    ∀ (bytes : List Byte) (es : List HostEvent), Consumer.answers threshold d bytes es = (d, bytes)

/-- The file of a session whose writes succeed holds exactly the delivered bytes before the first 0xFF, however the
transport cuts them into chunks, and whether it ends in a sentinel, in `EndOfStream` or in `Failure` (rule R112's
inference); before its end the file and the buffer hold them. -/
def Obligations.FileHoldsTheBytesBeforeTheFirstSentinel : Prop :=
  ∀ (threshold kept : Nat) (bytes : List Byte) (sizes : List Nat) (last : TransportResult),
    (last = .endOfStream ∨ last = .failure) →
    let ok := fun r => ({ result := r, flushFails := false, exitWriteFails := false, kept := kept } : HostEvent)
    let chunks := sizes.map (fun n => ok (.chunk n))
    let got := bytes.take sizes.sum
    let mid := (Consumer.answers threshold Consumer.opened bytes chunks).1
    let d := (Consumer.answers threshold Consumer.opened bytes (chunks ++ [ok last])).1
    mid.file ++ mid.buf = got.takeWhile (fun b => b != 0xFF) ∧
    d.file = got.takeWhile (fun b => b != 0xFF) ∧ d.buf = [] ∧ d.closes = 1 ∧
    ((0xFF : Byte) ∈ got → d.phase = .exited .overrun ∧ d.log = [.overrun]) ∧
    ((0xFF : Byte) ∉ got → last = .endOfStream → d.phase = .exited .endOfStream ∧ d.log = []) ∧
    ((0xFF : Byte) ∉ got → last = .failure → d.phase = .exited .transportFailure ∧ d.log = [.transportFailure])

/-- Over any answers of the transport, whichever file writes fail (a flush, the exit write after a sentinel, after the end
of the stream, after a transport failure or after a failed flush): the file and the buffer hold a part from the start of
the intended content, and all of it where no write failed or none was logged as failed (rules R110 and R112, decision D20;
log entry 14). -/
def Obligations.FailedWriteLeavesAPartFromTheStart : Prop :=
  ∀ (threshold : Nat) (c : Consumer) (bytes : List Byte) (es : List HostEvent),
    let d := (Consumer.answers threshold c bytes es).1
    let intended :=
      c.file ++ c.buf ++ (Consumer.delivered threshold (c, bytes) es).takeWhile (fun b => b != 0xFF)
    d.file ++ d.buf <+: intended ∧
    ((∀ e ∈ es, e.flushFails = false ∧ e.exitWriteFails = false) → d.file ++ d.buf = intended) ∧
    (d.log.count .writeFailure = c.log.count .writeFailure → d.file ++ d.buf = intended)

/-- What each answer that ends the loop leaves, the exit write succeeding or failing: `EndOfStream` and `Failure` (rules
R109 to R111), a chunk with a sentinel (rule R107), and a chunk whose flush fails (rule R110, decision D20). The buffer is
written once if it is not empty and then cleared, the file is closed once, each failed write is logged, and after one the
file holds the first `kept` bytes of its intended content (log entry 14, DESIGN CHOICE). -/
def Obligations.EndingAnswersLeaveTheFileClosed : Prop :=
  ∀ (threshold : Nat) (c : Consumer) (bytes : List Byte) (e : HostEvent), c.phase = .requesting →
    let d := (Consumer.answer threshold (c, bytes) e).1
    let rest := (Consumer.answer threshold (c, bytes) e).2
    let leaves := fun (buf : List Byte) (path : ExitPath) (log : List LogEntry) =>
      let fails := buf ≠ [] ∧ e.exitWriteFails = true
      d.phase = .exited path ∧ d.buf = [] ∧ d.closes = c.closes + 1 ∧
      d.writes = c.writes + (if buf = [] then 0 else 1) ∧
      d.log = c.log ++ log ++ (if fails then [.writeFailure] else []) ∧
      d.file = if fails then (c.file ++ buf).take e.kept else c.file ++ buf
    (e.result = .endOfStream → leaves c.buf .endOfStream [] ∧ rest = bytes) ∧
    (e.result = .failure → leaves c.buf .transportFailure [.transportFailure] ∧ rest = bytes) ∧
    ∀ n, e.result = .chunk n →
      rest = bytes.drop n ∧
      ((0xFF : Byte) ∈ bytes.take n →
        leaves (c.buf ++ (bytes.take n).takeWhile (fun b => b != 0xFF)) .overrun [.overrun]) ∧
      (bytes.take n ≠ [] → (0xFF : Byte) ∉ bytes.take n → threshold < (c.buf ++ bytes.take n).length →
        e.flushFails = true →
        d.phase = .exited .writeFailure ∧ d.buf = [] ∧ d.closes = c.closes + 1 ∧ d.writes = c.writes + 2 ∧
        d.log = c.log ++ [.writeFailure] ++ (if e.exitWriteFails then [.writeFailure] else []) ∧
        d.file = (c.file ++ c.buf ++ bytes.take n).take e.kept)

/-- Every step keeps: the file is closed exactly once, when the loop is left, and the buffer is then empty (rule
R109). -/
def Obligations.EveryStepKeepsTheFileClosedOnce : Prop :=
  ∀ s t : State, s.host.ClosedOnce → step s = .next t → t.host.ClosedOnce
end

