-- ==== Sys2Proof/Laws/Decode.lean ====
section
/-! SUPPORT. The opcode table as a whole: no two rows of one format and one channel count overlap (rule R55). -/

namespace Sys2Proof

/-- No value is in both rows: they differ in format, in channel count, or in a bit both fix. -/
def Row.apart (a b : Row) : Bool :=
  a.format != b.format || (a.channels.isSome && b.channels.isSome && a.channels != b.channels) ||
    (a.code ^^^ b.code) &&& a.mask &&& b.mask != 0

/-- Rule R55: the rows are pairwise disjoint. -/
theorem opcodeRows_pairwise_apart : opcodeRows.Pairwise (fun a b => a.apart b = true) := by decide

/-- Every row's match lies in its mask, and its mask in its format's width. -/
theorem opcodeRows_masks : opcodeRows.all
    (fun r => (r.code &&& r.mask == r.code) && decide (r.mask.toNat < 2 ^ r.format.width)) = true := by decide

theorem opcodeRows_length : opcodeRows.length = 21 := rfl

end Sys2Proof
end

