-- ==== Sys2Proof/Laws/State.lean ====
section
/-! SUPPORT. What each register-group write leaves in each field of the state, and that writes that touch no input
leave the cycle's inputs as they were. -/

namespace Sys2Proof.Machine

section setClock
variable (s : State) (n : Nat) (b : Bool) (r : Bool) (f : Bool)
@[simp] theorem State.setClock_cfg : (s.setClock n b r f).cfg = s.cfg := rfl
@[simp] theorem State.setClock_cycle : (s.setClock n b r f).cycle = s.cycle := rfl
@[simp] theorem State.setClock_inputs : (s.setClock n b r f).inputs = s.inputs := rfl
@[simp] theorem State.setClock_cgCnt : (s.setClock n b r f).cgCnt = n := rfl
@[simp] theorem State.setClock_bclk : (s.setClock n b r f).bclk = b := rfl
@[simp] theorem State.setClock_stbR : (s.setClock n b r f).stbR = r := rfl
@[simp] theorem State.setClock_stbF : (s.setClock n b r f).stbF = f := rfl
@[simp] theorem State.setClock_sync1 : (s.setClock n b r f).sync1 = s.sync1 := rfl
@[simp] theorem State.setClock_sync2 : (s.setClock n b r f).sync2 = s.sync2 := rfl
@[simp] theorem State.setClock_smpState : (s.setClock n b r f).smpState = s.smpState := rfl
@[simp] theorem State.setClock_rise : (s.setClock n b r f).rise = s.rise := rfl
@[simp] theorem State.setClock_fall : (s.setClock n b r f).fall = s.fall := rfl
@[simp] theorem State.setClock_word : (s.setClock n b r f).word = s.word := rfl
@[simp] theorem State.setClock_wordStb : (s.setClock n b r f).wordStb = s.wordStb := rfl
@[simp] theorem State.setClock_cycCnt : (s.setClock n b r f).cycCnt = s.cycCnt := rfl
@[simp] theorem State.setClock_cycCntPrev : (s.setClock n b r f).cycCntPrev = s.cycCntPrev := rfl
@[simp] theorem State.setClock_strState : (s.setClock n b r f).strState = s.strState := rfl
@[simp] theorem State.setClock_queue : (s.setClock n b r f).queue = s.queue := rfl
@[simp] theorem State.setClock_inFlight : (s.setClock n b r f).inFlight = s.inFlight := rfl
@[simp] theorem State.setClock_host : (s.setClock n b r f).host = s.host := rfl
@[simp] theorem State.setClock_hasSlot : (s.setClock n b r f).hasSlot = s.hasSlot := rfl
@[simp] theorem State.setClock_input : (s.setClock n b r f).input = s.input := rfl
@[simp] theorem State.setClock_hostEvents : (s.setClock n b r f).hostEvents = s.hostEvents := rfl
@[simp] theorem State.setClock_pins : (s.setClock n b r f).pins = s.pins := rfl
@[simp] theorem State.setClock_room : (s.setClock n b r f).room = s.room := rfl
end setClock

section setSync
variable (s : State) (a : Lanes) (b : Lanes)
@[simp] theorem State.setSync_cfg : (s.setSync a b).cfg = s.cfg := rfl
@[simp] theorem State.setSync_cycle : (s.setSync a b).cycle = s.cycle := rfl
@[simp] theorem State.setSync_inputs : (s.setSync a b).inputs = s.inputs := rfl
@[simp] theorem State.setSync_cgCnt : (s.setSync a b).cgCnt = s.cgCnt := rfl
@[simp] theorem State.setSync_bclk : (s.setSync a b).bclk = s.bclk := rfl
@[simp] theorem State.setSync_stbR : (s.setSync a b).stbR = s.stbR := rfl
@[simp] theorem State.setSync_stbF : (s.setSync a b).stbF = s.stbF := rfl
@[simp] theorem State.setSync_sync1 : (s.setSync a b).sync1 = a := rfl
@[simp] theorem State.setSync_sync2 : (s.setSync a b).sync2 = b := rfl
@[simp] theorem State.setSync_smpState : (s.setSync a b).smpState = s.smpState := rfl
@[simp] theorem State.setSync_rise : (s.setSync a b).rise = s.rise := rfl
@[simp] theorem State.setSync_fall : (s.setSync a b).fall = s.fall := rfl
@[simp] theorem State.setSync_word : (s.setSync a b).word = s.word := rfl
@[simp] theorem State.setSync_wordStb : (s.setSync a b).wordStb = s.wordStb := rfl
@[simp] theorem State.setSync_cycCnt : (s.setSync a b).cycCnt = s.cycCnt := rfl
@[simp] theorem State.setSync_cycCntPrev : (s.setSync a b).cycCntPrev = s.cycCntPrev := rfl
@[simp] theorem State.setSync_strState : (s.setSync a b).strState = s.strState := rfl
@[simp] theorem State.setSync_queue : (s.setSync a b).queue = s.queue := rfl
@[simp] theorem State.setSync_inFlight : (s.setSync a b).inFlight = s.inFlight := rfl
@[simp] theorem State.setSync_host : (s.setSync a b).host = s.host := rfl
@[simp] theorem State.setSync_hasSlot : (s.setSync a b).hasSlot = s.hasSlot := rfl
@[simp] theorem State.setSync_input : (s.setSync a b).input = s.input := rfl
@[simp] theorem State.setSync_hostEvents : (s.setSync a b).hostEvents = s.hostEvents := rfl
@[simp] theorem State.setSync_pins : (s.setSync a b).pins = s.pins := rfl
@[simp] theorem State.setSync_room : (s.setSync a b).room = s.room := rfl
end setSync

section setSampling
variable (s : State) (c : StateCode) (b : Bool)
@[simp] theorem State.setSampling_cfg : (s.setSampling c b).cfg = s.cfg := rfl
@[simp] theorem State.setSampling_cycle : (s.setSampling c b).cycle = s.cycle := rfl
@[simp] theorem State.setSampling_inputs : (s.setSampling c b).inputs = s.inputs := rfl
@[simp] theorem State.setSampling_cgCnt : (s.setSampling c b).cgCnt = s.cgCnt := rfl
@[simp] theorem State.setSampling_bclk : (s.setSampling c b).bclk = s.bclk := rfl
@[simp] theorem State.setSampling_stbR : (s.setSampling c b).stbR = s.stbR := rfl
@[simp] theorem State.setSampling_stbF : (s.setSampling c b).stbF = s.stbF := rfl
@[simp] theorem State.setSampling_sync1 : (s.setSampling c b).sync1 = s.sync1 := rfl
@[simp] theorem State.setSampling_sync2 : (s.setSampling c b).sync2 = s.sync2 := rfl
@[simp] theorem State.setSampling_smpState : (s.setSampling c b).smpState = c := rfl
@[simp] theorem State.setSampling_rise : (s.setSampling c b).rise = s.rise := rfl
@[simp] theorem State.setSampling_fall : (s.setSampling c b).fall = s.fall := rfl
@[simp] theorem State.setSampling_word : (s.setSampling c b).word = s.word := rfl
@[simp] theorem State.setSampling_wordStb : (s.setSampling c b).wordStb = b := rfl
@[simp] theorem State.setSampling_cycCnt : (s.setSampling c b).cycCnt = s.cycCnt := rfl
@[simp] theorem State.setSampling_cycCntPrev : (s.setSampling c b).cycCntPrev = s.cycCntPrev := rfl
@[simp] theorem State.setSampling_strState : (s.setSampling c b).strState = s.strState := rfl
@[simp] theorem State.setSampling_queue : (s.setSampling c b).queue = s.queue := rfl
@[simp] theorem State.setSampling_inFlight : (s.setSampling c b).inFlight = s.inFlight := rfl
@[simp] theorem State.setSampling_host : (s.setSampling c b).host = s.host := rfl
@[simp] theorem State.setSampling_hasSlot : (s.setSampling c b).hasSlot = s.hasSlot := rfl
@[simp] theorem State.setSampling_input : (s.setSampling c b).input = s.input := rfl
@[simp] theorem State.setSampling_hostEvents : (s.setSampling c b).hostEvents = s.hostEvents := rfl
@[simp] theorem State.setSampling_pins : (s.setSampling c b).pins = s.pins := rfl
@[simp] theorem State.setSampling_room : (s.setSampling c b).room = s.room := rfl
end setSampling

section setHalves
variable (s : State) (r : Lanes) (f : Lanes)
@[simp] theorem State.setHalves_cfg : (s.setHalves r f).cfg = s.cfg := rfl
@[simp] theorem State.setHalves_cycle : (s.setHalves r f).cycle = s.cycle := rfl
@[simp] theorem State.setHalves_inputs : (s.setHalves r f).inputs = s.inputs := rfl
@[simp] theorem State.setHalves_cgCnt : (s.setHalves r f).cgCnt = s.cgCnt := rfl
@[simp] theorem State.setHalves_bclk : (s.setHalves r f).bclk = s.bclk := rfl
@[simp] theorem State.setHalves_stbR : (s.setHalves r f).stbR = s.stbR := rfl
@[simp] theorem State.setHalves_stbF : (s.setHalves r f).stbF = s.stbF := rfl
@[simp] theorem State.setHalves_sync1 : (s.setHalves r f).sync1 = s.sync1 := rfl
@[simp] theorem State.setHalves_sync2 : (s.setHalves r f).sync2 = s.sync2 := rfl
@[simp] theorem State.setHalves_smpState : (s.setHalves r f).smpState = s.smpState := rfl
@[simp] theorem State.setHalves_rise : (s.setHalves r f).rise = r := rfl
@[simp] theorem State.setHalves_fall : (s.setHalves r f).fall = f := rfl
@[simp] theorem State.setHalves_word : (s.setHalves r f).word = s.word := rfl
@[simp] theorem State.setHalves_wordStb : (s.setHalves r f).wordStb = s.wordStb := rfl
@[simp] theorem State.setHalves_cycCnt : (s.setHalves r f).cycCnt = s.cycCnt := rfl
@[simp] theorem State.setHalves_cycCntPrev : (s.setHalves r f).cycCntPrev = s.cycCntPrev := rfl
@[simp] theorem State.setHalves_strState : (s.setHalves r f).strState = s.strState := rfl
@[simp] theorem State.setHalves_queue : (s.setHalves r f).queue = s.queue := rfl
@[simp] theorem State.setHalves_inFlight : (s.setHalves r f).inFlight = s.inFlight := rfl
@[simp] theorem State.setHalves_host : (s.setHalves r f).host = s.host := rfl
@[simp] theorem State.setHalves_hasSlot : (s.setHalves r f).hasSlot = s.hasSlot := rfl
@[simp] theorem State.setHalves_input : (s.setHalves r f).input = s.input := rfl
@[simp] theorem State.setHalves_hostEvents : (s.setHalves r f).hostEvents = s.hostEvents := rfl
@[simp] theorem State.setHalves_pins : (s.setHalves r f).pins = s.pins := rfl
@[simp] theorem State.setHalves_room : (s.setHalves r f).room = s.room := rfl
end setHalves

section setWord
variable (s : State) (w : SampleWord)
@[simp] theorem State.setWord_cfg : (s.setWord w).cfg = s.cfg := rfl
@[simp] theorem State.setWord_cycle : (s.setWord w).cycle = s.cycle := rfl
@[simp] theorem State.setWord_inputs : (s.setWord w).inputs = s.inputs := rfl
@[simp] theorem State.setWord_cgCnt : (s.setWord w).cgCnt = s.cgCnt := rfl
@[simp] theorem State.setWord_bclk : (s.setWord w).bclk = s.bclk := rfl
@[simp] theorem State.setWord_stbR : (s.setWord w).stbR = s.stbR := rfl
@[simp] theorem State.setWord_stbF : (s.setWord w).stbF = s.stbF := rfl
@[simp] theorem State.setWord_sync1 : (s.setWord w).sync1 = s.sync1 := rfl
@[simp] theorem State.setWord_sync2 : (s.setWord w).sync2 = s.sync2 := rfl
@[simp] theorem State.setWord_smpState : (s.setWord w).smpState = s.smpState := rfl
@[simp] theorem State.setWord_rise : (s.setWord w).rise = s.rise := rfl
@[simp] theorem State.setWord_fall : (s.setWord w).fall = s.fall := rfl
@[simp] theorem State.setWord_word : (s.setWord w).word = w := rfl
@[simp] theorem State.setWord_wordStb : (s.setWord w).wordStb = s.wordStb := rfl
@[simp] theorem State.setWord_cycCnt : (s.setWord w).cycCnt = s.cycCnt := rfl
@[simp] theorem State.setWord_cycCntPrev : (s.setWord w).cycCntPrev = s.cycCntPrev := rfl
@[simp] theorem State.setWord_strState : (s.setWord w).strState = s.strState := rfl
@[simp] theorem State.setWord_queue : (s.setWord w).queue = s.queue := rfl
@[simp] theorem State.setWord_inFlight : (s.setWord w).inFlight = s.inFlight := rfl
@[simp] theorem State.setWord_host : (s.setWord w).host = s.host := rfl
@[simp] theorem State.setWord_hasSlot : (s.setWord w).hasSlot = s.hasSlot := rfl
@[simp] theorem State.setWord_input : (s.setWord w).input = s.input := rfl
@[simp] theorem State.setWord_hostEvents : (s.setWord w).hostEvents = s.hostEvents := rfl
@[simp] theorem State.setWord_pins : (s.setWord w).pins = s.pins := rfl
@[simp] theorem State.setWord_room : (s.setWord w).room = s.room := rfl
end setWord

section setCounts
variable (s : State) (k : SampleWord) (p : SampleWord)
@[simp] theorem State.setCounts_cfg : (s.setCounts k p).cfg = s.cfg := rfl
@[simp] theorem State.setCounts_cycle : (s.setCounts k p).cycle = s.cycle := rfl
@[simp] theorem State.setCounts_inputs : (s.setCounts k p).inputs = s.inputs := rfl
@[simp] theorem State.setCounts_cgCnt : (s.setCounts k p).cgCnt = s.cgCnt := rfl
@[simp] theorem State.setCounts_bclk : (s.setCounts k p).bclk = s.bclk := rfl
@[simp] theorem State.setCounts_stbR : (s.setCounts k p).stbR = s.stbR := rfl
@[simp] theorem State.setCounts_stbF : (s.setCounts k p).stbF = s.stbF := rfl
@[simp] theorem State.setCounts_sync1 : (s.setCounts k p).sync1 = s.sync1 := rfl
@[simp] theorem State.setCounts_sync2 : (s.setCounts k p).sync2 = s.sync2 := rfl
@[simp] theorem State.setCounts_smpState : (s.setCounts k p).smpState = s.smpState := rfl
@[simp] theorem State.setCounts_rise : (s.setCounts k p).rise = s.rise := rfl
@[simp] theorem State.setCounts_fall : (s.setCounts k p).fall = s.fall := rfl
@[simp] theorem State.setCounts_word : (s.setCounts k p).word = s.word := rfl
@[simp] theorem State.setCounts_wordStb : (s.setCounts k p).wordStb = s.wordStb := rfl
@[simp] theorem State.setCounts_cycCnt : (s.setCounts k p).cycCnt = k := rfl
@[simp] theorem State.setCounts_cycCntPrev : (s.setCounts k p).cycCntPrev = p := rfl
@[simp] theorem State.setCounts_strState : (s.setCounts k p).strState = s.strState := rfl
@[simp] theorem State.setCounts_queue : (s.setCounts k p).queue = s.queue := rfl
@[simp] theorem State.setCounts_inFlight : (s.setCounts k p).inFlight = s.inFlight := rfl
@[simp] theorem State.setCounts_host : (s.setCounts k p).host = s.host := rfl
@[simp] theorem State.setCounts_hasSlot : (s.setCounts k p).hasSlot = s.hasSlot := rfl
@[simp] theorem State.setCounts_input : (s.setCounts k p).input = s.input := rfl
@[simp] theorem State.setCounts_hostEvents : (s.setCounts k p).hostEvents = s.hostEvents := rfl
@[simp] theorem State.setCounts_pins : (s.setCounts k p).pins = s.pins := rfl
@[simp] theorem State.setCounts_room : (s.setCounts k p).room = s.room := rfl
end setCounts

section setStreamer
variable (s : State) (c : StateCode)
@[simp] theorem State.setStreamer_cfg : (s.setStreamer c).cfg = s.cfg := rfl
@[simp] theorem State.setStreamer_cycle : (s.setStreamer c).cycle = s.cycle := rfl
@[simp] theorem State.setStreamer_inputs : (s.setStreamer c).inputs = s.inputs := rfl
@[simp] theorem State.setStreamer_cgCnt : (s.setStreamer c).cgCnt = s.cgCnt := rfl
@[simp] theorem State.setStreamer_bclk : (s.setStreamer c).bclk = s.bclk := rfl
@[simp] theorem State.setStreamer_stbR : (s.setStreamer c).stbR = s.stbR := rfl
@[simp] theorem State.setStreamer_stbF : (s.setStreamer c).stbF = s.stbF := rfl
@[simp] theorem State.setStreamer_sync1 : (s.setStreamer c).sync1 = s.sync1 := rfl
@[simp] theorem State.setStreamer_sync2 : (s.setStreamer c).sync2 = s.sync2 := rfl
@[simp] theorem State.setStreamer_smpState : (s.setStreamer c).smpState = s.smpState := rfl
@[simp] theorem State.setStreamer_rise : (s.setStreamer c).rise = s.rise := rfl
@[simp] theorem State.setStreamer_fall : (s.setStreamer c).fall = s.fall := rfl
@[simp] theorem State.setStreamer_word : (s.setStreamer c).word = s.word := rfl
@[simp] theorem State.setStreamer_wordStb : (s.setStreamer c).wordStb = s.wordStb := rfl
@[simp] theorem State.setStreamer_cycCnt : (s.setStreamer c).cycCnt = s.cycCnt := rfl
@[simp] theorem State.setStreamer_cycCntPrev : (s.setStreamer c).cycCntPrev = s.cycCntPrev := rfl
@[simp] theorem State.setStreamer_strState : (s.setStreamer c).strState = c := rfl
@[simp] theorem State.setStreamer_queue : (s.setStreamer c).queue = s.queue := rfl
@[simp] theorem State.setStreamer_inFlight : (s.setStreamer c).inFlight = s.inFlight := rfl
@[simp] theorem State.setStreamer_host : (s.setStreamer c).host = s.host := rfl
@[simp] theorem State.setStreamer_hasSlot : (s.setStreamer c).hasSlot = s.hasSlot := rfl
@[simp] theorem State.setStreamer_input : (s.setStreamer c).input = s.input := rfl
@[simp] theorem State.setStreamer_hostEvents : (s.setStreamer c).hostEvents = s.hostEvents := rfl
@[simp] theorem State.setStreamer_pins : (s.setStreamer c).pins = s.pins := rfl
@[simp] theorem State.setStreamer_room : (s.setStreamer c).room = s.room := rfl
end setStreamer

section setQueue
variable (s : State) (q : List Byte)
@[simp] theorem State.setQueue_cfg : (s.setQueue q).cfg = s.cfg := rfl
@[simp] theorem State.setQueue_cycle : (s.setQueue q).cycle = s.cycle := rfl
@[simp] theorem State.setQueue_inputs : (s.setQueue q).inputs = s.inputs := rfl
@[simp] theorem State.setQueue_cgCnt : (s.setQueue q).cgCnt = s.cgCnt := rfl
@[simp] theorem State.setQueue_bclk : (s.setQueue q).bclk = s.bclk := rfl
@[simp] theorem State.setQueue_stbR : (s.setQueue q).stbR = s.stbR := rfl
@[simp] theorem State.setQueue_stbF : (s.setQueue q).stbF = s.stbF := rfl
@[simp] theorem State.setQueue_sync1 : (s.setQueue q).sync1 = s.sync1 := rfl
@[simp] theorem State.setQueue_sync2 : (s.setQueue q).sync2 = s.sync2 := rfl
@[simp] theorem State.setQueue_smpState : (s.setQueue q).smpState = s.smpState := rfl
@[simp] theorem State.setQueue_rise : (s.setQueue q).rise = s.rise := rfl
@[simp] theorem State.setQueue_fall : (s.setQueue q).fall = s.fall := rfl
@[simp] theorem State.setQueue_word : (s.setQueue q).word = s.word := rfl
@[simp] theorem State.setQueue_wordStb : (s.setQueue q).wordStb = s.wordStb := rfl
@[simp] theorem State.setQueue_cycCnt : (s.setQueue q).cycCnt = s.cycCnt := rfl
@[simp] theorem State.setQueue_cycCntPrev : (s.setQueue q).cycCntPrev = s.cycCntPrev := rfl
@[simp] theorem State.setQueue_strState : (s.setQueue q).strState = s.strState := rfl
@[simp] theorem State.setQueue_queue : (s.setQueue q).queue = q := rfl
@[simp] theorem State.setQueue_inFlight : (s.setQueue q).inFlight = s.inFlight := rfl
@[simp] theorem State.setQueue_host : (s.setQueue q).host = s.host := rfl
end setQueue

section setHost
variable (s : State) (b : List Byte) (c : Consumer)
@[simp] theorem State.setHost_cfg : (s.setHost b c).cfg = s.cfg := rfl
@[simp] theorem State.setHost_cycle : (s.setHost b c).cycle = s.cycle := rfl
@[simp] theorem State.setHost_inputs : (s.setHost b c).inputs = s.inputs := rfl
@[simp] theorem State.setHost_cgCnt : (s.setHost b c).cgCnt = s.cgCnt := rfl
@[simp] theorem State.setHost_bclk : (s.setHost b c).bclk = s.bclk := rfl
@[simp] theorem State.setHost_stbR : (s.setHost b c).stbR = s.stbR := rfl
@[simp] theorem State.setHost_stbF : (s.setHost b c).stbF = s.stbF := rfl
@[simp] theorem State.setHost_sync1 : (s.setHost b c).sync1 = s.sync1 := rfl
@[simp] theorem State.setHost_sync2 : (s.setHost b c).sync2 = s.sync2 := rfl
@[simp] theorem State.setHost_smpState : (s.setHost b c).smpState = s.smpState := rfl
@[simp] theorem State.setHost_rise : (s.setHost b c).rise = s.rise := rfl
@[simp] theorem State.setHost_fall : (s.setHost b c).fall = s.fall := rfl
@[simp] theorem State.setHost_word : (s.setHost b c).word = s.word := rfl
@[simp] theorem State.setHost_wordStb : (s.setHost b c).wordStb = s.wordStb := rfl
@[simp] theorem State.setHost_cycCnt : (s.setHost b c).cycCnt = s.cycCnt := rfl
@[simp] theorem State.setHost_cycCntPrev : (s.setHost b c).cycCntPrev = s.cycCntPrev := rfl
@[simp] theorem State.setHost_strState : (s.setHost b c).strState = s.strState := rfl
@[simp] theorem State.setHost_queue : (s.setHost b c).queue = s.queue := rfl
@[simp] theorem State.setHost_inFlight : (s.setHost b c).inFlight = b := rfl
@[simp] theorem State.setHost_host : (s.setHost b c).host = c := rfl
@[simp] theorem State.setHost_hasSlot : (s.setHost b c).hasSlot = s.hasSlot := rfl
@[simp] theorem State.setHost_input : (s.setHost b c).input = s.input := rfl
@[simp] theorem State.setHost_pins : (s.setHost b c).pins = s.pins := rfl
@[simp] theorem State.setHost_room : (s.setHost b c).room = s.room := rfl
end setHost

section nextInput
variable (s : State)
@[simp] theorem State.nextInput_cfg : s.nextInput.cfg = s.cfg := rfl
@[simp] theorem State.nextInput_cycle : s.nextInput.cycle = s.cycle + 1 := rfl
@[simp] theorem State.nextInput_inputs : s.nextInput.inputs = s.inputs.tail := rfl
@[simp] theorem State.nextInput_cgCnt : s.nextInput.cgCnt = s.cgCnt := rfl
@[simp] theorem State.nextInput_bclk : s.nextInput.bclk = s.bclk := rfl
@[simp] theorem State.nextInput_stbR : s.nextInput.stbR = s.stbR := rfl
@[simp] theorem State.nextInput_stbF : s.nextInput.stbF = s.stbF := rfl
@[simp] theorem State.nextInput_sync1 : s.nextInput.sync1 = s.sync1 := rfl
@[simp] theorem State.nextInput_sync2 : s.nextInput.sync2 = s.sync2 := rfl
@[simp] theorem State.nextInput_smpState : s.nextInput.smpState = s.smpState := rfl
@[simp] theorem State.nextInput_rise : s.nextInput.rise = s.rise := rfl
@[simp] theorem State.nextInput_fall : s.nextInput.fall = s.fall := rfl
@[simp] theorem State.nextInput_word : s.nextInput.word = s.word := rfl
@[simp] theorem State.nextInput_wordStb : s.nextInput.wordStb = s.wordStb := rfl
@[simp] theorem State.nextInput_cycCnt : s.nextInput.cycCnt = s.cycCnt := rfl
@[simp] theorem State.nextInput_cycCntPrev : s.nextInput.cycCntPrev = s.cycCntPrev := rfl
@[simp] theorem State.nextInput_strState : s.nextInput.strState = s.strState := rfl
@[simp] theorem State.nextInput_queue : s.nextInput.queue = s.queue := rfl
@[simp] theorem State.nextInput_inFlight : s.nextInput.inFlight = s.inFlight := rfl
@[simp] theorem State.nextInput_host : s.nextInput.host = s.host := rfl
end nextInput

end Sys2Proof.Machine
end

