-- ==== Sys2Proof/Laws/Ops.lean ====
section
/-! SUPPORT. What each shared operation can do, said once: chaining, the write primitive, the overrun operations, the
operand forms, and the environment's part of a cycle. -/

namespace Sys2Proof.Machine

@[simp] theorem andThen_next (s : State) (k : State → Result) : andThen (.next s) k = k s := rfl
@[simp] theorem andThen_fault (f : Fault) (k : State → Result) : andThen (.fault f) k = .fault f := rfl
@[simp] theorem andThen_refused (e : Refusal) (k : State → Result) : andThen (.refused e) k = .refused e := rfl

/-- A chain answers a next state exactly when both of its parts do. -/
theorem andThen_eq_next_iff {r : Result} {k : State → Result} {t : State} :
    andThen r k = .next t ↔ ∃ s, r = .next s ∧ k s = .next t := by
  cases r <;> simp

/-- Chaining associates, so the four arms of a cycle may be read one after the other. -/
theorem andThen_assoc (r : Result) (k l : State → Result) :
    andThen (andThen r k) l = andThen r (fun s => andThen (k s) l) := by
  cases r <;> rfl

/-- The write primitive completes exactly when there is room and a slot, and then appends the byte. -/
theorem fifoWrite_eq_next_iff {b : Byte} {s t : State} :
    fifoWrite b s = .next t ↔ s.room = true ∧ s.hasSlot = true ∧ t = s.setQueue (s.queue ++ [b]) := by
  unfold fifoWrite
  cases s.room <;> cases s.hasSlot <;> simp [eq_comm]

theorem fifoWrite_of_room {b : Byte} {s : State} (hr : s.room = true) (hs : s.hasSlot = true) :
    fifoWrite b s = .next (s.setQueue (s.queue ++ [b])) := by
  simp [fifoWrite, hr, hs]

theorem fifoWrite_without_room {b : Byte} {s : State} (hr : s.room = false) :
    fifoWrite b s = .fault .writeWithoutRoom := by
  simp [fifoWrite, hr]

theorem fifoWrite_full {b : Byte} {s : State} (hr : s.room = true) (hs : s.hasSlot = false) :
    fifoWrite b s = .fault .writeToFullQueue := by
  simp [fifoWrite, hr, hs]

/-- The write primitive refuses nothing. -/
theorem fifoWrite_ne_refused (b : Byte) (s : State) (e : Refusal) : fifoWrite b s ≠ .refused e := by
  unfold fifoWrite
  split
  · simp
  · split <;> simp

theorem hasSlot_iff {s : State} : s.hasSlot = true ↔ s.queue.length < s.cfg.capacity := by
  simp [State.hasSlot]

/-- An environment can present the current cycle's input exactly when it meets the four conditions. -/
theorem inputProblem_eq_none_iff {s : State} : s.inputProblem = none ↔
    s.input.wellFormed s.cfg.channels = true ∧ s.roomAdmissible s.room = true ∧ s.input.drain ≤ s.queue.length ∧
      Consumer.admits s.cfg.flushThreshold (s.host, s.inFlight) s.hostEvents = true := by
  simp only [State.inputProblem, Bool.not_eq_true']
  repeat' split
  all_goals simp_all

/-- The write primitive keeps the queue within its capacity. -/
theorem fifoWrite_keeps_bound {b : Byte} {s t : State} (h : fifoWrite b s = .next t) :
    t.queue.length ≤ t.cfg.capacity := by
  obtain ⟨_, hs, rfl⟩ := fifoWrite_eq_next_iff.mp h
  have := hasSlot_iff.mp hs
  simp
  omega

@[simp] theorem enterOverrun_eq (s : State) : enterOverrun s = s.setStreamer strReportOverrun := rfl
@[simp] theorem leaveOverrun_eq (s : State) : leaveOverrun s = s.setStreamer strIdle := rfl

section environment
variable (k : Nat) (es : List HostEvent) (s : State)
@[simp] theorem environment_cfg : (environment k es s).cfg = s.cfg := rfl
@[simp] theorem environment_cycle : (environment k es s).cycle = s.cycle + 1 := rfl
@[simp] theorem environment_inputs : (environment k es s).inputs = s.inputs.tail := rfl
@[simp] theorem environment_cgCnt : (environment k es s).cgCnt = s.cgCnt := rfl
@[simp] theorem environment_bclk : (environment k es s).bclk = s.bclk := rfl
@[simp] theorem environment_stbR : (environment k es s).stbR = s.stbR := rfl
@[simp] theorem environment_stbF : (environment k es s).stbF = s.stbF := rfl
@[simp] theorem environment_sync1 : (environment k es s).sync1 = s.sync1 := rfl
@[simp] theorem environment_sync2 : (environment k es s).sync2 = s.sync2 := rfl
@[simp] theorem environment_smpState : (environment k es s).smpState = s.smpState := rfl
@[simp] theorem environment_rise : (environment k es s).rise = s.rise := rfl
@[simp] theorem environment_fall : (environment k es s).fall = s.fall := rfl
@[simp] theorem environment_word : (environment k es s).word = s.word := rfl
@[simp] theorem environment_wordStb : (environment k es s).wordStb = s.wordStb := rfl
@[simp] theorem environment_cycCnt : (environment k es s).cycCnt = s.cycCnt := rfl
@[simp] theorem environment_cycCntPrev : (environment k es s).cycCntPrev = s.cycCntPrev := rfl
@[simp] theorem environment_strState : (environment k es s).strState = s.strState := rfl
@[simp] theorem environment_queue : (environment k es s).queue = s.queue.drop k := rfl
@[simp] theorem environment_inFlight : (environment k es s).inFlight =
    (Consumer.answers s.cfg.flushThreshold s.host s.inFlight es).2 ++ s.queue.take k := rfl
@[simp] theorem environment_host : (environment k es s).host =
    (Consumer.answers s.cfg.flushThreshold s.host s.inFlight es).1 := rfl
end environment

/-- Removing bytes keeps the queue within its capacity. -/
theorem environment_keeps_bound {k : Nat} {es : List HostEvent} {s : State} (h : s.queue.length ≤ s.cfg.capacity) :
    (environment k es s).queue.length ≤ (environment k es s).cfg.capacity := by
  simp
  omega

section answers
variable (threshold : Nat) (c : Consumer) (bytes : List Byte)
@[simp] theorem answers_nil : Consumer.answers threshold c bytes [] = (c, bytes) := rfl
@[simp] theorem answers_cons (e : HostEvent) (es : List HostEvent) : Consumer.answers threshold c bytes (e :: es) =
    Consumer.answers threshold (Consumer.answer threshold (c, bytes) e).1
      (Consumer.answer threshold (c, bytes) e).2 es := rfl
end answers

/-- After the loop's exit an answer changes nothing (rule R109; log entry 16). -/
theorem answer_of_exited {threshold : Nat} {c : Consumer} {p : ExitPath} (h : c.phase = .exited p) (bytes : List Byte)
    (e : HostEvent) : Consumer.answer threshold (c, bytes) e = (c, bytes) := by
  simp [Consumer.answer, h]

/-- What the chunks deliver and what stays in flight are, in order, what was in flight: the transport loses, repeats and
reorders nothing (rule R103). -/
theorem delivered_append_rest (threshold : Nat) (es : List HostEvent) (c : Consumer) (bytes : List Byte) :
    Consumer.delivered threshold (c, bytes) es ++ (Consumer.answers threshold c bytes es).2 = bytes := by
  induction es generalizing c bytes with
  | nil => rfl
  | cons e es ih =>
    rw [answers_cons, Consumer.delivered, List.append_assoc, ih]
    cases hp : c.phase <;> cases hr : e.result <;> simp [Consumer.answer, hp, hr]

/-- Removing at most what the queue held leaves a byte appended in the same cycle at the tail (rule R36). -/
theorem drop_append_of_le {q a : List Byte} {k : Nat} (h : k ≤ q.length) : (q ++ a).drop k = q.drop k ++ a :=
  List.drop_append_of_le_length h

/-- An N-bit value has no bit at or above N. -/
theorem narrow_lt (n : Nat) (hn : n ≤ 3) (v : Lanes) : (narrow n v).toNat < 2 ^ n := by
  have h : ∀ m ≤ 3, ∀ u : Lanes, (narrow m u).toNat < 2 ^ m := by decide
  exact h n hn v

/-- The sample word of an N-channel build fits in `2 * N` bits. -/
theorem interleave_lt (n : Nat) (hn : n ≤ 3) (r f : Lanes) : (interleave n r f).toNat < 2 ^ (2 * n) := by
  have h : ∀ m ≤ 3, ∀ a b : Lanes, (interleave m a b).toNat < 2 ^ (2 * m) := by decide
  exact h n hn r f

theorem legal_iff {c : Config} : c.legal = true ↔
    (1 ≤ c.channels ∧ c.channels ≤ 3) ∧ 2 ≤ c.divisor ∧ 1 ≤ c.capacity ∧ 1 ≤ c.flushThreshold ∧
      0 < c.fRef ∧ 0 < c.fTarget := by
  simp [Config.legal, and_assoc]

/-- The half period of a legal configuration is at least 1 and below the divisor (rule R51). -/
theorem halfPeriod_bounds {c : Config} (h : c.legal = true) : 1 ≤ halfPeriod c ∧ halfPeriod c < c.divisor := by
  have := legal_iff.mp h
  unfold halfPeriod
  omega

end Sys2Proof.Machine
end

