-- ==== Sys2Proof/Laws/PerInstr.lean ====
section
/-! SUPPORT. What holds of each instruction as text: its encoding fits the width of its format (rule R48). -/

namespace Sys2Proof.Laws.EncodingFits

def Statement (i : Instr) : Prop := (encode i).toNat < 2 ^ i.format.width

theorem cgFallReload : Statement .cgFallReload := by unfold Statement; decide
theorem cgRise : Statement .cgRise := by unfold Statement; decide
theorem cgCount : Statement .cgCount := by unfold Statement; decide
theorem syncShift : Statement .syncShift := by unfold Statement; decide
theorem smpReport : Statement .smpReport := by unfold Statement; decide
theorem smpHoldRise : Statement .smpHoldRise := by unfold Statement; decide
theorem smpCaptureRise : Statement .smpCaptureRise := by unfold Statement; decide
theorem smpHoldFall : Statement .smpHoldFall := by unfold Statement; decide
theorem smpCaptureFall : Statement .smpCaptureFall := by unfold Statement; decide
theorem smpUnreachableFault : Statement .smpUnreachableFault := by unfold Statement; decide
theorem strIdleNop : Statement .strIdleNop := by unfold Statement; decide
theorem strOverrunDetect : Statement .strOverrunDetect := by unfold Statement; decide
theorem strWriteData : Statement .strWriteData := by unfold Statement; decide
theorem strOvrHold : Statement .strOvrHold := by unfold Statement; decide
theorem strWriteSentinel : Statement .strWriteSentinel := by unfold Statement; decide
theorem strWait : Statement .strWait := by unfold Statement; decide
theorem strUnreachableFault : Statement .strUnreachableFault := by unfold Statement; decide
theorem dataN3 (d : BitVec 6) : Statement (.dataN3 d) := (encode (.dataN3 d)).isLt
theorem dataN2 (d : BitVec 4) : Statement (.dataN2 d) := (encode (.dataN2 d)).isLt
theorem dataN1 (d : BitVec 2) : Statement (.dataN1 d) := (encode (.dataN1 d)).isLt
theorem sentinel : Statement .sentinel := by unfold Statement; decide

end Sys2Proof.Laws.EncodingFits
end

