-- ==== Sys2Proof/Tests/Slice0.lean ====
section
/-! SUPPORT. Tests whose expected results are the tables of `95_test_vectors.md` and the words of the rules, the
well-formedness smoke tests, and a witness for the hypotheses of each statement. -/

namespace Sys2Proof.Tests

open Sys2Proof.Machine

/-- A configuration with the given N, D and C, in this design's other parameters. -/
def build3 (n d c : Nat) : Config :=
  { channels := n
    divisor := d
    capacity := c
    roomExact := false
    flushThreshold := 1048576
    fRef := 8800000
    fTarget := 2200000 }

/-- An input with the given pins and room. -/
def given (pins : Lanes) (room : Bool) : Stimulus := { pins := pins, room := room, drain := 0, host := some [] }

/-- N = 3, D = 4, C = 8192 at reset, with room in the first cycle. -/
def base : State := { State.resetWith (build3 3 4 8192) with inputs := [given 0 true] }

/-- The same without room. -/
def noRoom : State := { State.resetWith (build3 3 4 8192) with inputs := [given 0 false] }

/-- An answer of the transport whose writes succeed. -/
def good (r : TransportResult) : HostEvent :=
  { result := r, flushFails := false, exitWriteFails := false, kept := 0 }

def nextOf (r : Result) : Option State :=
  match r with
  | .next s => some s
  | _ => none

def faultOf (r : Result) : Option Fault :=
  match r with
  | .fault f => some f
  | _ => none

def refusalOf (r : Result) : Option Refusal :=
  match r with
  | .refused e => some e
  | _ => none

/-! ## Well-formedness and configuration checks (rules R56, R61, R114) -/

theorem test_data_row_of_another_build_is_ill_formed :
    Instr.wellFormed 2 (.dataN3 0b111111) = false ∧ Instr.wellFormed 3 (.dataN2 0) = false ∧
    Instr.wellFormed 3 (.dataN1 0) = false ∧ Instr.wellFormed 3 (.dataN3 0b111111) = true := by decide
theorem test_pins_beyond_the_channels_are_ill_formed :
    (given 0b100 true).wellFormed 2 = false ∧ (given 0b011 true).wellFormed 2 = true := by decide
theorem test_illegal_channels : (build3 0 4 1).legal = false ∧ (build3 4 4 1).legal = false := by decide
theorem test_illegal_divisor : (build3 3 1 1).legal = false ∧ (build3 3 2 1).legal = true := by decide
theorem test_illegal_capacity : (build3 3 4 0).legal = false := by decide
theorem test_illegal_threshold : ({ build3 3 4 1 with flushThreshold := 0 } : Config).legal = false := by decide
/-- Rule R5: `F_REF` and `F_TARGET` are positive; any positive value is legal. -/
theorem test_illegal_frequencies : ({ build3 3 4 1 with fRef := 0 } : Config).legal = false ∧
    ({ build3 3 4 1 with fTarget := -1 } : Config).legal = false ∧
    ({ build3 3 4 1 with fRef := { num := 1, den := 3 }, fTarget := 3072000 } : Config).legal = true := by decide
theorem test_program_with_late_first_line_is_ill_formed :
    StimulusProgram.wellFormed { cfg := build3 3 4 1, lines := [⟨1, 0, true, 0⟩], cycles := 2 } = false ∧
    StimulusProgram.wellFormed { cfg := build3 3 4 1, lines := [⟨0, 0, true, 0⟩], cycles := 2 } = true := by decide
theorem test_program_pins_and_order_are_checked :
    StimulusProgram.wellFormed { cfg := build3 1 4 1, lines := [⟨0, 0b10, true, 0⟩], cycles := 2 } = false ∧
    StimulusProgram.wellFormed { cfg := build3 1 4 1, lines := [⟨0, 0, true, 0⟩, ⟨0, 1, true, 0⟩], cycles := 2 } = false := by
  decide

/-! ## Decoding: one word written out for each row (rules R51 to R57) -/

theorem test_decode_clock : decode .cgSelect 3 0b10 = .ok .cgFallReload ∧ decode .cgSelect 3 0b01 = .ok .cgRise ∧
    decode .cgSelect 3 0b00 = .ok .cgCount := by decide
theorem test_decode_clock_both : decode .cgSelect 3 0b11 = .error .bothComparesHold := by decide
theorem test_decode_sync : decode .syncSelect 3 0 = .ok .syncShift := by decide
theorem test_decode_sampling_hold : decode .smpSelect 3 0b0011 = .ok .smpReport ∧
    decode .smpSelect 3 0b0101 = .ok .smpHoldRise ∧ decode .smpSelect 3 0b1010 = .ok .smpHoldFall := by decide
theorem test_decode_sampling_capture : decode .smpSelect 3 0b0110 = .ok .smpCaptureRise ∧
    decode .smpSelect 3 0b1001 = .ok .smpCaptureFall ∧ decode .smpSelect 3 0b1110 = .ok .smpUnreachableFault := by decide
theorem test_decode_streamer_idle : decode .strSelect 3 0b0001 = .ok .strIdleNop ∧
    decode .strSelect 3 0b0010 = .ok .strOverrunDetect ∧ decode .strSelect 3 0b0011 = .ok .strWriteData := by decide
theorem test_decode_streamer_overrun : decode .strSelect 3 0b0110 = .ok .strOvrHold ∧
    decode .strSelect 3 0b0101 = .ok .strWriteSentinel := by decide
theorem test_decode_streamer_wait : decode .strSelect 3 0b1011 = .ok .strWait ∧
    decode .strSelect 3 0b1101 = .ok .strUnreachableFault := by decide
theorem test_decode_data : decode .streamByte 3 0b00011001 = .ok (.dataN3 0b011001) ∧
    decode .streamByte 2 0b00000110 = .ok (.dataN2 0b0110) ∧ decode .streamByte 1 0b00000010 = .ok (.dataN1 0b10) := by
  decide
theorem test_decode_sentinel : decode .streamByte 2 0b11111111 = .ok .sentinel := by decide
theorem test_decode_rejects : decode .streamByte 3 0x40 = .error (.reservedByte 0x40) ∧
    decode .smpSelect 3 0x10 = .error (.valueTooWide .smpSelect 0x10) := by decide
/-- `95_test_vectors.md` section 2.6. -/
theorem test_read_stream : readStream 3 [0x15, 0x19, 0x40, 0xFF] =
    [.data 0b111 0b000, .data 0b101 0b010, .invalid, .overrun] := by decide
theorem test_read_stream_narrow : readStreamByte 2 0x10 = .invalid ∧ readStreamByte 1 0x03 = .data 1 1 ∧
    readStreamByte 1 0x04 = .invalid ∧ readStreamByte 2 0x0F = .data 3 3 := by decide
/-- Program P1's encoding `0x80 + pins`, and P3's `0x03` without room. -/
theorem test_stimulus_word : encodeStimulus (given 0b101 true) = 0x85 ∧ encodeStimulus (given 0b011 false) = 0x03 ∧
    decodeStimulus 3 0x85 = .ok { given 0b101 true with host := none } ∧ decodeStimulus 2 0x84 = .error .pinsBeyondChannels ∧
    decodeStimulus 3 0x88 = .error .zeroBitsSet := by decide
theorem test_program_encoding : StimulusProgram.encoding
    { cfg := build3 2 4 8192, lines := [⟨0, 0b11, true, 0⟩, ⟨2, 0b11, false, 0⟩], cycles := 4 } =
    [0x83, 0x83, 0x03, 0x03] := by decide

/-! ## Table words (log entry 9) -/

theorem test_table_words : decodeTableWord 8 0x01 = some .cgRise ∧ decodeTableWord 8 0x05 = some .strWriteSentinel ∧
    decodeTableWord 8 0x09 = some .smpCaptureFall ∧ decodeTableWord 8 0xFF = some .sentinel ∧
    decodeTableWord 8 0x40 = none ∧ decodeTableWord 0 0 = some .syncShift ∧ decodeTableWord 4 0 = some .smpReport := by
  decide
theorem test_table_word_runs_clock :
    (nextOf (step (State.reset.withFetchWord 8 0x02))).map (fun t => (t.cgCnt, t.bclk, t.stbR, t.stbF)) =
      some (3, false, false, true) := by decide
theorem test_table_word_runs_sentinel :
    (nextOf (step (State.reset.withFetchWord 8 0xFF))).map (fun t => (t.queue, t.strState)) =
      some ([0xFF], 0b00) := by decide
theorem test_table_word_faults :
    faultOf (step (State.reset.withFetchWord 8 0x0C)) = some .smpStateUnreachable := by decide

/-! ## The arms (tables of `95_test_vectors.md` sections 2.1 to 2.4) -/

theorem test_cg_fall_reload : (nextOf (exec .cgFallReload { base with cgCnt := 0, bclk := true })).map
    (fun t => (t.cgCnt, t.bclk, t.stbR, t.stbF)) = some (3, false, false, true) := by decide
theorem test_cg_rise : (nextOf (exec .cgRise { base with cgCnt := 2 })).map
    (fun t => (t.cgCnt, t.bclk, t.stbR, t.stbF)) = some (1, true, true, false) := by decide
theorem test_cg_count : (nextOf (exec .cgCount { base with cgCnt := 1, bclk := true, stbR := true })).map
    (fun t => (t.cgCnt, t.bclk, t.stbR, t.stbF)) = some (0, true, false, false) := by decide
/-- Rule R72's example. -/
theorem test_sync_shift : (nextOf (exec .syncShift { base with sync1 := 0b101, inputs := [given 0b010 true] })).map
    (fun t => (t.sync1, t.sync2)) = some (0b010, 0b101) := by decide
/-- Rule R79's example. -/
theorem test_smp_report : (nextOf (exec .smpReport { base with rise := 0b100, fall := 0b110, cycCnt := 2 })).map
    (fun t => (t.word, t.wordStb, t.smpState, t.cycCntPrev)) = some (0x38, true, 0b01, 2) := by decide
theorem test_smp_hold_rise : (nextOf (exec .smpHoldRise { base with smpState := 0b01, wordStb := true })).map
    (fun t => (t.wordStb, t.smpState)) = some (false, 0b01) := by decide
theorem test_smp_capture_rise : (nextOf (exec .smpCaptureRise
    { base with smpState := 0b01, sync2 := 0b110, fall := 0b001 })).map
    (fun t => (t.rise, t.fall, t.smpState)) = some (0b110, 0b001, 0b10) := by decide
theorem test_smp_hold_fall : (nextOf (exec .smpHoldFall { base with smpState := 0b10, wordStb := true })).map
    (fun t => (t.wordStb, t.smpState)) = some (false, 0b10) := by decide
/-- Rule R83's example: with N = 1 the counter wraps from 3 to 0. -/
theorem test_smp_capture_fall : (nextOf (exec .smpCaptureFall
    { base with cfg := build3 1 4 8192, smpState := 0b10, cycCnt := 3, sync2 := 1 })).map
    (fun t => (t.fall, t.cycCnt, t.smpState)) = some (1, 0, 0b00) := by decide
theorem test_smp_capture_fall_counts : (nextOf (exec .smpCaptureFall { base with smpState := 0b10, cycCnt := 3 })).map
    (fun t => t.cycCnt) = some 4 := by decide
theorem test_str_idle_nop : (nextOf (exec .strIdleNop base)).map (fun t => (t.queue, t.strState)) = some ([], 0b00) := by
  decide
theorem test_str_overrun_detect : (nextOf (exec .strOverrunDetect { noRoom with wordStb := true, word := 0x0F })).map
    (fun t => (t.queue, t.strState)) = some ([], 0b01) := by decide
/-- Rule R92's example. -/
theorem test_str_write_data : (nextOf (exec .strWriteData { base with wordStb := true, word := 0b001000, queue := [0] })).map
    (fun t => (t.queue, t.strState)) = some ([0, 0x08], 0b10) := by decide
theorem test_str_write_data_without_room : faultOf (exec .strWriteData noRoom) = some .writeWithoutRoom := by decide
theorem test_str_ovr_hold : (nextOf (exec .strOvrHold { noRoom with strState := 0b01, wordStb := true })).map
    (fun t => (t.queue, t.strState)) = some ([], 0b01) := by decide
theorem test_str_write_sentinel : (nextOf (exec .strWriteSentinel
    { base with strState := 0b01, wordStb := true, word := 0x3F })).map (fun t => (t.queue, t.strState)) =
    some ([0xFF], 0b00) := by decide
theorem test_str_wait : (nextOf (exec .strWait { base with strState := 0b10 })).map (fun t => t.strState) = some 0b00 := by
  decide
theorem test_unreachable_rows : faultOf (exec .smpUnreachableFault base) = some .smpStateUnreachable ∧
    faultOf (exec .strUnreachableFault base) = some .strStateUnreachable := by decide
theorem test_data_n3 : (nextOf (exec (.dataN3 0b111111) base)).map (fun t => t.queue) = some [0x3F] := by decide
theorem test_data_n2 : (nextOf (exec (.dataN2 0b0110) { base with cfg := build3 2 4 8192 })).map (fun t => t.queue) =
    some [0x06] := by decide
theorem test_data_n1 : (nextOf (exec (.dataN1 0b10) { base with cfg := build3 1 4 8192 })).map (fun t => t.queue) =
    some [0x02] := by decide
theorem test_data_row_of_another_build : refusalOf (exec (.dataN2 0b0110) base) = some .dataRowOfOtherChannelCount := by
  decide
theorem test_sentinel : (nextOf (exec .sentinel { base with queue := [1] })).map (fun t => t.queue) = some [1, 0xFF] := by
  decide
theorem test_sentinel_to_full_queue : faultOf (exec .sentinel { base with cfg := build3 3 4 1, queue := [1] }) =
    some .writeToFullQueue := by decide
/-- `95_test_vectors.md` sections 1.3 and 2.3. -/
theorem test_interleave : interleave 3 0b101 0b010 = 0x19 ∧ interleave 3 0b011 0b110 = 0x2D ∧
    interleave 3 0b000 0b100 = 0x20 ∧ interleave 2 0b10 0b01 = 0x06 ∧ interleave 1 0 1 = 0x02 ∧
    interleave 3 0b111 0b111 = 0x3F := by decide

/-! ## The cycle and the environment -/

/-- Program P1, cycle 9 to cycle 10. -/
theorem test_cycle_report : (nextOf (step { base with
    inputs := [given 0b001 true], cgCnt := 2, sync2 := 0b111, rise := 0b100, fall := 0b110, word := 0x08,
    cycCnt := 2 })).map
    (fun t => ((t.cgCnt, t.bclk, t.stbR, t.stbF), (t.sync1, t.sync2), (t.smpState, t.word, t.wordStb))) =
    some ((1, true, true, false), (0b001, 0b000), (0b01, 0x38, true)) := by decide
/-- Program P5, cycle 10: room returns with a strobe; one write, the word dropped. -/
theorem test_cycle_sentinel_wins : (nextOf (step { base with
    cgCnt := 1, stbR := true, sync2 := 0b111, smpState := 0b01, word := 0x3F, wordStb := true, strState := 0b01,
    queue := [0x00] })).map (fun t => (t.queue, t.strState, t.rise, t.smpState)) =
    some ([0x00, 0xFF], 0b00, 0b111, 0b10) := by decide
/-- Rule R36: removal and a write in one cycle. -/
theorem test_cycle_drains : (nextOf (step { base with
    inputs := [{ given 0 true with drain := 2 }], smpState := 0b01, word := 0x15, wordStb := true,
    queue := [1, 2] })).map (fun t => (t.queue, t.inFlight)) = some ([0x15], [1, 2]) := by decide
theorem test_cycle_refuses_room_without_slot :
    refusalOf (step { base with cfg := build3 3 4 1, queue := [1] }) = some .roomBreaksConstraint ∧
    refusalOf (step { base with inputs := [{ given 0 true with drain := 1 }] }) = some .drainBeyondQueue ∧
    refusalOf (step { base with cfg := build3 2 4 8, inputs := [given 0b100 true] }) = some .pinsBeyondChannels ∧
    refusalOf (step { base with cfg := build3 3 1 8 }) = some .illegalConfiguration := by decide
/-- Rule R103: a removed byte still in flight must be delivered before the normal end; a failure may lose it. -/
theorem test_cycle_refuses_early_end :
    refusalOf (step { base with inputs := [{ given 0 true with host := some [good .endOfStream] }], inFlight := [1] }) =
      some .endOfStreamBeforeDelivery ∧
    (nextOf (step { base with
      inputs := [{ given 0 true with host := some [good (.chunk 1), good .endOfStream] }], inFlight := [1] })).map
      (fun t => (t.host.file, t.host.phase, t.inFlight)) = some ([1], .exited .endOfStream, []) ∧
    (nextOf (step { base with inputs := [{ given 0 true with host := some [good .failure] }], inFlight := [1] })).map
      (fun t => t.host.phase) = some (.exited .transportFailure) := by decide
/-- `ROOM_EXACT` (rule R38): an empty queue that reports no room is refused. -/
theorem test_cycle_exact_room :
    refusalOf (step { noRoom with cfg := { build3 3 4 8 with roomExact := true } }) = some .roomBreaksConstraint := by
  decide
theorem test_build_refuses : build (build3 3 1 8) = .error .illegalConfiguration := by decide

/-! ## The host consumer (`95_test_vectors.md` sections 1.5 and 2.5) -/

theorem test_host_sentinel_vector :
    let d := Consumer.answers 1048576 Consumer.opened [1, 2, 3, 0xFF, 4, 5]
      [good (.chunk 0), good (.chunk 2), good (.chunk 3), good (.chunk 1)]
    d.1.file = [1, 2, 3] ∧ d.1.log = [.overrun] ∧ d.1.closes = 1 ∧ d.2 = [5] := by decide
/-- H5: the transport fails. -/
theorem test_host_failure :
    let d := (Consumer.answers 1048576 Consumer.opened [0, 0x3F] [good (.chunk 2), good .failure]).1
    d.file = [0, 0x3F] ∧ d.log = [.transportFailure] ∧ d.phase = .exited .transportFailure := by decide
/-- H3: nothing is written and the file is closed. -/
theorem test_host_empty_exit :
    let d := (Consumer.answers 1048576 Consumer.opened [0xFF, 1, 2] [good (.chunk 2), good (.chunk 1)]).1
    d.file = [] ∧ d.writes = 0 ∧ d.closes = 1 := by decide
/-- Section 1.6 with a threshold of 2: no flush at the threshold, the whole buffer beyond it. -/
theorem test_host_flush :
    (Consumer.opened.takeChunk 2 [1, 2] (good .endOfStream)).file = [] ∧
    ((Consumer.opened.takeChunk 2 [1, 2] (good .endOfStream)).takeChunk 2 [3] (good .endOfStream)).file = [1, 2, 3] := by
  decide
/-- A failing exit write after a failure: both logged, the file a part from the start (rules R110, R111). -/
theorem test_host_exit_write_failure :
    let d := (Consumer.answers 1048576 Consumer.opened [1, 2, 3]
      [good (.chunk 3), { good .failure with exitWriteFails := true, kept := 1 }]).1
    d.file = [1] ∧ d.buf = [] ∧ d.log = [.transportFailure, .writeFailure] ∧ d.closes = 1 ∧ d.writes = 1 := by decide
theorem test_host_write_failure :
    let d := Consumer.opened.takeChunk 0 [1, 2, 3] { good (.chunk 3) with flushFails := true, kept := 2 }
    d.file = [1, 2] ∧ d.log = [.writeFailure] ∧ d.phase = .exited .writeFailure ∧ d.writes = 2 := by decide

/-! ## Witnesses: states and operands that meet the hypotheses of the statements -/

/-- An N-channel build at reset with room and a strobe, ready to write. -/
def ready (n : Nat) : State :=
  { State.resetWith (build3 n 4 8192) with inputs := [given 0 true], smpState := 0b01, wordStb := true }

theorem base_inv : base.Inv := by constructor <;> decide
theorem base_admissible : base.cfg.legal = true ∧ base.inputProblem = none := by decide

theorem witness_DecodeOfEncodeIsTheInstruction :
    Instr.wellFormed 3 (.dataN3 0x3F) = true ∧ Instr.wellFormed 2 (.dataN2 0xF) = true ∧
    Instr.wellFormed 1 (.dataN1 0x3) = true ∧ Instr.wellFormed 1 .strUnreachableFault = true := by decide
theorem witness_DecodedValueMatchesItsEncoding :
    decode .smpSelect 3 0b0111 = .ok .smpCaptureRise ∧ decode .streamByte 1 0x03 = .ok (.dataN1 0b11) := by decide
theorem witness_EverySelectVectorPicksOneRow :
    base.cfg.legal = true ∧ ({ base with smpState := 0b11, strState := 0b11 } : State).cfg.legal = true ∧
    base.arms = some ⟨.cgCount, .syncShift, .smpReport, .strIdleNop⟩ := by decide
theorem witness_DataByteReadsBackItsSamples :
    readStreamByte 3 (dataByte (interleave 3 0b111 0b000)) = .data 0b111 0b000 ∧
    readStreamByte 1 (dataByte (interleave 1 0b111 0b110)) = .data 1 0 := by decide
theorem witness_StreamBytesAreDataSentinelOrInvalid :
    readStreamByte 3 0x3F = .data 0b111 0b111 ∧ readStreamByte 3 0x40 = .invalid ∧ readStreamByte 3 0xFE = .invalid ∧
    readStreamByte 3 0xFF = .overrun := by decide
theorem witness_StimulusWordCarriesRoomAndPins :
    (given 0b011 true).wellFormed 2 = true ∧ (given 0b100 true).wellFormed 2 = false := by decide
theorem witness_InterleavePlacesEachChannel :
    (dataByte (interleave 3 0b100 0)).getLsbD 4 = true ∧ (dataByte (interleave 3 0 0b100)).getLsbD 5 = true ∧
    (dataByte (interleave 3 0b111 0b111)).getLsbD 6 = false ∧ (dataByte (interleave 1 0b111 0b111)).getLsbD 2 = false := by
  decide
theorem witness_ClockFallReloadWritesItsRegisters : ({ base with cgCnt := 0 } : State).cgSelect = 0b10 := by decide
theorem witness_ClockRiseWritesItsRegisters : ({ base with cgCnt := 2 } : State).cgSelect = 0b01 := by decide
theorem witness_ClockCountDecrements : base.cgSelect = 0b00 ∧ ({ base with cgCnt := 1 } : State).cgSelect = 0b00 := by
  decide
theorem witness_ReportLatchesTheWord :
    ({ base with stbR := true, stbF := true } : State).smpSelect &&& 0xC = 0x0 := by decide
theorem witness_HoldRiseRemains : ({ base with smpState := 0b01, stbF := true } : State).smpSelect &&& 0xE = 0x4 := by
  decide
theorem witness_CaptureRiseTakesTheSynchronizedInput :
    ({ base with smpState := 0b01, stbR := true } : State).smpSelect &&& 0xE = 0x6 := by decide
theorem witness_HoldFallRemains : ({ base with smpState := 0b10, stbR := true } : State).smpSelect &&& 0xD = 0x8 := by
  decide
theorem witness_CaptureFallTakesTheInputAndCounts :
    ({ base with smpState := 0b10, stbF := true } : State).smpSelect &&& 0xD = 0x9 ∧ base.cfg.channels ≤ 3 := by decide
theorem witness_IdleNopChangesNothing : base.strSelect &&& 0xE = 0x0 ∧ noRoom.strSelect &&& 0xE = 0x0 := by decide
theorem witness_OverrunDetectDropsTheWord : ({ noRoom with wordStb := true } : State).strSelect = 0x2 := by decide
theorem witness_WriteDataAppendsTheWord :
    (ready 3).strSelect = 0x3 ∧ (ready 3).queue.length < (ready 3).cfg.capacity := by decide
theorem witness_OverrunHoldChangesNothing :
    ({ noRoom with strState := 0b01, wordStb := true } : State).strSelect &&& 0xD = 0x4 := by decide
theorem witness_WriteSentinelAppendsTheSentinel :
    ({ ready 3 with strState := 0b01 } : State).strSelect &&& 0xD = 0x5 ∧
    (ready 3).queue.length < (ready 3).cfg.capacity := by decide
theorem witness_WaitReturnsToIdle : ({ base with strState := 0b10, wordStb := true } : State).strSelect &&& 0xC = 0x8 := by
  decide
theorem witness_DataRowsAppendTheirByte :
    ((ready 3).room = true ∧ (ready 3).queue.length < (ready 3).cfg.capacity ∧ (ready 3).cfg.channels = 3) ∧
    ((ready 2).room = true ∧ (ready 2).queue.length < (ready 2).cfg.capacity ∧ (ready 2).cfg.channels = 2) ∧
    ((ready 1).room = true ∧ (ready 1).queue.length < (ready 1).cfg.capacity ∧ (ready 1).cfg.channels = 1) := by decide
theorem witness_SentinelAppendsAndNoDataByteIsIt :
    (base.room = true ∧ base.queue.length < base.cfg.capacity) ∧
    Instr.format (.dataN3 0x3F) = .streamByte ∧ Instr.dataN3 0x3F ≠ .sentinel := by decide
theorem witness_WritesWithoutRoomFault :
    Instr.wellFormed noRoom.cfg.channels (.dataN3 0) = true ∧ noRoom.room = false ∧
    (({ base with cfg := build3 3 4 1, queue := [0] } : State).room = true ∧
      ({ base with cfg := build3 3 4 1, queue := [0] } : State).cfg.capacity ≤ 1) := by decide
theorem witness_WriteDataIsADataRowThenWait :
    ({ ready 1 with word := 0b11 } : State).word.toNat < 2 ^ (2 * (ready 1).cfg.channels) ∧ 1 ≤ (ready 1).cfg.channels ∧
    ({ ready 3 with word := 0x3F } : State).word.toNat < 2 ^ (2 * (ready 3).cfg.channels) ∧ (ready 3).cfg.channels ≤ 3 := by
  decide
theorem witness_EachRegisterHasOneWriter :
    (∃ t, exec .strWriteData (ready 3) = .next t) ∧ (∃ t, exec .smpReport base = .next t) ∧
    (∃ t, exec .cgCount base = .next t) ∧ ∃ t, exec .syncShift base = .next t :=
  ⟨⟨_, rfl⟩, ⟨_, rfl⟩, ⟨_, rfl⟩, ⟨_, rfl⟩⟩
theorem witness_StepRunsTheDecodedArms :
    base.cfg.legal = true ∧ base.inputProblem = none ∧
    decode .cgSelect base.cfg.channels base.cgSelect = .ok .cgCount ∧
    decode .syncSelect base.cfg.channels base.syncSelect = .ok .syncShift ∧
    decode .smpSelect base.cfg.channels base.smpSelect = .ok .smpReport ∧
    decode .strSelect base.cfg.channels base.strSelect = .ok .strIdleNop := by decide
theorem witness_StepComputesTheNextStateAtOnce :
    base.cfg.legal = true ∧ base.inputProblem = none ∧ base.smpState ≠ 0b11 ∧ base.strState ≠ 0b11 := by decide
theorem witness_IllegalConfigurationIsRefused :
    ¬(((build3 0 4 8).channels = 1 ∨ (build3 0 4 8).channels = 2 ∨ (build3 0 4 8).channels = 3) ∧
      2 ≤ (build3 0 4 8).divisor ∧ 1 ≤ (build3 0 4 8).capacity) ∧
    ¬(((build3 4 4 8).channels = 1 ∨ (build3 4 4 8).channels = 2 ∨ (build3 4 4 8).channels = 3) ∧
      2 ≤ (build3 4 4 8).divisor ∧ 1 ≤ (build3 4 4 8).capacity) ∧
    ¬2 ≤ (build3 3 1 8).divisor ∧ ¬1 ≤ (build3 3 4 0).capacity ∧
    ¬1 ≤ ({ build3 3 4 8 with flushThreshold := 0 } : Config).flushThreshold ∧
    ¬0 < ({ build3 3 4 8 with fRef := 0 } : Config).fRef ∧ ¬0 < ({ build3 3 4 8 with fTarget := -1 } : Config).fTarget ∧
    ({ base with cfg := build3 3 1 8 } : State).cfg = build3 3 1 8 := by decide
theorem witness_BuildGivesTheResetState : (build3 1 2 1).legal = true ∧ (build3 3 4 8192).legal = true := by decide
theorem witness_FirstWordAfterResetIsZero :
    ∃ t, step { State.resetWith (build3 3 4 8192) with inputs := [given 0b111 true] } = .next t := ⟨_, rfl⟩
theorem witness_SynchronizerShifts : ∃ t, step base = .next t := ⟨_, rfl⟩
theorem witness_ResetMeetsTheInvariants : (build3 1 2 1).legal = true ∧ (build3 3 5 8192).legal = true := by decide
theorem witness_EveryStepKeepsTheInvariant : base.Inv ∧ ∃ t, step base = .next t := ⟨base_inv, ⟨_, rfl⟩⟩
theorem witness_StepGoesOnUnderTheInvariant : base.Inv ∧ base.inputProblem = none := ⟨base_inv, by decide⟩
theorem witness_FreeDrawsAreAdmissible :
    State.reset.cfg.legal = true ∧ State.reset.inputs = [] := by decide
theorem witness_StepFaultsExactlyAtUnreachableCodes :
    base.cfg.legal = true ∧ base.inputProblem = none ∧
    faultOf (step { base with strState := 0b11, smpState := 0b11 }) = some .strStateUnreachable ∧
    faultOf (step { base with smpState := 0b11 }) = some .smpStateUnreachable ∧ faultOf (step base) = none := by decide
theorem base_clock_phase : base.ClockPhase := by constructor <;> decide
theorem witness_EveryStepKeepsTheClockPhase : base.ClockPhase ∧ ∃ t, step base = .next t :=
  ⟨base_clock_phase, ⟨_, rfl⟩⟩

/-- Cycle 1 of a run with D = 2 and two given inputs. -/
def halfRate : State :=
  { State.resetWith (build3 1 2 8192) with
    cycle := 1, inputs := [given 1 true, given 1 true, given 1 true], cgCnt := 0, bclk := true, stbR := true,
    sync1 := 1, smpState := 0b01, wordStb := true }

theorem halfRate_loop_phase : halfRate.LoopPhase :=
  ⟨⟨by decide, by decide, by decide, by decide⟩, by decide, by decide⟩
theorem witness_StrobesFireOncePerPeriod :
    halfRate.ClockPhase ∧ 1 ≤ halfRate.cycle ∧ ∃ t, Host.Core.run Sys2Proof.core halfRate.cfg.divisor halfRate = .next t :=
  ⟨halfRate_loop_phase.clock, by decide, ⟨_, rfl⟩⟩
theorem base_loop_phase : base.LoopPhase := ⟨base_clock_phase, by decide, by decide⟩
theorem witness_EveryStepKeepsTheLoopPhase :
    (base.LoopPhase ∧ ∃ t, step base = .next t) ∧ halfRate.LoopPhase ∧ ∃ t, step halfRate = .next t :=
  ⟨⟨base_loop_phase, ⟨_, rfl⟩⟩, halfRate_loop_phase, ⟨_, rfl⟩⟩
theorem ready_inv : (ready 3).Inv := by constructor <;> decide
theorem witness_NoStrobeReachesTheCooldown :
    (ready 3).Inv ∧ (ready 3).NoStrobeInWait ∧ ∃ t, step (ready 3) = .next t ∧ t.strState = strWait :=
  ⟨ready_inv, by unfold State.NoStrobeInWait; decide, ⟨_, rfl, rfl⟩⟩
theorem witness_WordStrobeFollowsReport :
    (∃ t, step base = .next t ∧ t.wordStb = true) ∧ ∃ t, step (ready 3) = .next t ∧ t.wordStb = false :=
  ⟨⟨_, rfl, rfl⟩, ⟨_, rfl, rfl⟩⟩
theorem witness_SynchronizerDelaysByTwoCycles :
    ∃ t u, step halfRate = .next t ∧ step t = .next u ∧ u.sync2 = 1 := ⟨_, _, rfl, rfl, rfl⟩
theorem witness_QueueTakesTheWrittenByte :
    (∃ t, step (ready 3) = .next t ∧ t.queue = [0]) ∧
    ∃ t, step { ready 3 with
      inputs := [{ given 0 true with drain := 1, host := some [good (.chunk 1)] }]
      queue := [7]
      inFlight := [9] } = .next t ∧ t.inFlight = [7] := ⟨⟨_, rfl, rfl⟩, ⟨_, rfl, rfl⟩⟩

/-- One input against each constraint and one at its boundary: pins 4 and 3 for N = 2, room with C and with C - 1 bytes
queued, no room under `ROOM_EXACT` with and without a slot, a removal of |Q| + 1 and of |Q| bytes, the stream's end with a
byte in flight and with none. -/
theorem witness_InputsKeepTheEnvironmentsConstraints :
    let two : State := { State.resetWith (build3 2 4 2) with queue := [7] }
    let x : Stimulus := given 0b11 true
    let exact : State := { two with cfg := { build3 2 4 2 with roomExact := true } }
    let ends : Stimulus := { x with host := some [good (.chunk 1), good .endOfStream] }
    (2 ^ two.cfg.channels ≤ (given 0b100 true).pins.toNat ∧
      refusalOf (step { two with inputs := [given 0b100 true] }) = some .pinsBeyondChannels ∧
      (nextOf (step { two with inputs := [x] })).isSome) ∧
    (refusalOf (step { two with inputs := [x], queue := [7, 8] }) = some .roomBreaksConstraint ∧
      refusalOf (step { exact with inputs := [given 0 false] }) = some .roomBreaksConstraint ∧
      (nextOf (step { exact with inputs := [given 0 false], queue := [7, 8] })).isSome ∧
      (nextOf (step { exact with inputs := [x] })).isSome) ∧
    (refusalOf (step { two with inputs := [{ x with drain := 2 }] }) = some .drainBeyondQueue ∧
      (nextOf (step { two with inputs := [{ x with drain := 1 }] })).isSome) ∧
    refusalOf (step { two with inputs := [ends], inFlight := [1, 2] }) = some .endOfStreamBeforeDelivery ∧
    (nextOf (step { two with inputs := [{ ends with drain := 1 }], inFlight := [1] })).map
      (fun t => (t.host.phase, t.inFlight)) = some (.exited .endOfStream, [7]) := by decide

/-- A pending overrun with one cycle without room and one with it to come. -/
def pending : State :=
  { State.resetWith (build3 3 4 8192) with inputs := [given 0 false, given 0 true], strState := 0b01 }

theorem witness_OverrunHoldsUntilRoomThenSentinel :
    pending.strState = 0b01 ∧
    (∀ i < 1, ∀ u, Host.Core.run Sys2Proof.core i pending = .next u → State.room u = false) ∧
    ∃ t v, Host.Core.run Sys2Proof.core 1 pending = .next t ∧ State.room t = true ∧ step t = .next v :=
  ⟨rfl, by
    intro i hi u hu
    obtain rfl : i = 0 := by omega
    obtain rfl : pending = u := by injection hu
    decide, ⟨_, _, rfl, rfl, rfl⟩⟩
theorem witness_OverrunsAndBytesAreAccountedFor : ∃ t, Host.Core.run Sys2Proof.core 2 pending = .next t := ⟨_, rfl⟩
theorem witness_RoomAtEveryStrobeMeansNoOverrun :
    (ready 3).Inv ∧ (ready 3).NoStrobeInWait ∧ (ready 3).strState ≠ 0b01 ∧
    (∀ i < 1, ∀ u, Host.Core.run Sys2Proof.core i (ready 3) = .next u → State.wordStb u = true → State.room u = true) ∧
    ∃ t, Host.Core.run Sys2Proof.core 1 (ready 3) = .next t :=
  ⟨ready_inv, by unfold State.NoStrobeInWait; decide, by decide, by
    intro i hi u hu _
    obtain rfl : i = 0 := by omega
    obtain rfl : ready 3 = u := by injection hu
    decide, ⟨_, rfl⟩⟩
theorem witness_ConfigurationIsNeverWritten : ∃ t, Host.Core.run Sys2Proof.core 2 pending = .next t := ⟨_, rfl⟩
theorem witness_SamplingIgnoresTheStreamer :
    base.SamplesAlike { noRoom with strState := 0b01, queue := [1] } ∧
    base.pins = ({ noRoom with strState := 0b01, queue := [1] } : State).pins ∧
    (∃ t, step base = .next t) ∧ ∃ v, step { noRoom with strState := 0b01, queue := [1] } = .next v :=
  ⟨⟨rfl, by decide, by decide, by decide, by decide, by decide, by decide⟩, by decide, ⟨_, rfl⟩, ⟨_, rfl⟩⟩
theorem witness_CycleCountersFeedNoOutput : ∃ t, step { base with cycCnt := 63, cycCntPrev := 5 } = .next t := ⟨_, rfl⟩
theorem witness_HostNeverChangesTheBlock :
    let s : State := { base with inputs := [{ given 0 true with host := some [good .endOfStream] }] }
    let u : State := { s with inFlight := [1] }
    (∃ t, step s = .next t) ∧
    Consumer.admits s.cfg.flushThreshold (Consumer.opened, []) s.hostEvents = true ∧
    Consumer.admits s.cfg.flushThreshold (Consumer.opened, [1]) u.hostEvents = false :=
  ⟨⟨_, rfl⟩, by decide, by decide⟩
theorem witness_EmptyChunkChangesNothing :
    (good (.chunk 0)).result = .chunk 0 ∧ ∃ n, (good (.chunk 3)).result = .chunk n := ⟨rfl, ⟨_, rfl⟩⟩
theorem witness_SentinelChunkEndsTheSession :
    (0xFF : Byte) ∉ ([1, 2] : List Byte) ∧ (good (.chunk 4)).exitWriteFails = false := by decide
theorem witness_FileHoldsTheBytesBeforeTheFirstSentinel :
    (good .endOfStream).result = .endOfStream ∧ (good .failure).result = .failure ∧
    (0xFF : Byte) ∈ ([1, 0xFF, 2] : List Byte).take [1, 1].sum ∧ (0xFF : Byte) ∉ ([1, 0xFF, 2] : List Byte).take [1].sum := by
  decide
theorem witness_FailedWriteLeavesAPartFromTheStart :
    (∀ e ∈ [good (.chunk 2), good .endOfStream], e.flushFails = false ∧ e.exitWriteFails = false) ∧
    (Consumer.answers 0 Consumer.opened [1, 2] [{ good (.chunk 2) with flushFails := true, kept := 1 }]).1.file = [1] ∧
    Consumer.delivered 0 (Consumer.opened, [1, 2]) [good (.chunk 2)] = [1, 2] ∧
    (Consumer.answers 9 Consumer.opened [1, 2] [good (.chunk 2)]).1.log.count .writeFailure =
      Consumer.opened.log.count .writeFailure := by decide
theorem witness_EndingAnswersLeaveTheFileClosed :
    Consumer.opened.phase = .requesting ∧ (good .endOfStream).result = .endOfStream ∧ (good .failure).result = .failure ∧
    (good (.chunk 2)).result = .chunk 2 ∧ (0xFF : Byte) ∈ ([0xFF, 1] : List Byte).take 1 ∧
    (([1, 2] : List Byte).take 2 ≠ [] ∧ (0xFF : Byte) ∉ ([1, 2] : List Byte).take 2 ∧
      1 < (Consumer.opened.buf ++ ([1, 2] : List Byte).take 2).length ∧
      ({ good (.chunk 2) with flushFails := true } : HostEvent).flushFails = true) := by decide
theorem witness_EveryStepKeepsTheFileClosedOnce :
    base.host.ClosedOnce ∧ (∃ t, step base = .next t) ∧
    ({ base with host := { Consumer.opened with phase := .exited .overrun, closes := 1 } } : State).host.ClosedOnce ∧
    ∃ t, step { base with host := { Consumer.opened with phase := .exited .overrun, closes := 1 } } = .next t :=
  ⟨.inl ⟨rfl, rfl⟩, ⟨_, rfl⟩, .inr ⟨_, rfl, rfl, rfl⟩, ⟨_, rfl⟩⟩

end Sys2Proof.Tests
end

section
/-! The bit order inside a stream byte (`20_memory.md` rule R39). -/

namespace Sys2Proof.Machine

@[simp] theorem laneBit_of_lt {n i : Nat} (h : i < n) (v : Lanes) : laneBit n v i = v.getLsbD i := by
  simp [laneBit, h]

/-- Zero extension to a byte moves no bit of the sample word (rule R56). -/
@[simp] theorem getLsbD_dataByte (w : SampleWord) (j : Nat) : (dataByte w).getLsbD j = w.getLsbD j := by
  have hlt : w.getLsbD j = true → j < 8 := fun hj => (BitVec.lt_of_getLsbD hj).trans (by decide)
  simpa [dataByte] using hlt

/-- Rule R78's permutation, bit by bit: lane `i` of `r` and of `f` stand side by side from bit `2 * i` up. -/
theorem getLsbD_interleave (n : Nat) (r f : Lanes) {i : Nat} (hi : i < 3) :
    (interleave n r f).getLsbD (2 * i) = laneBit n r i ∧
      (interleave n r f).getLsbD (2 * i + 1) = laneBit n f i := by
  interval_cases i <;> simp only [interleave, BitVec.getLsbD_append, BitVec.getLsbD_ofBool] <;> simp

/-- The padding: a sample word that fits in `2 * n` bits has none set from there up. -/
theorem getLsbD_interleave_of_le {n j : Nat} (hn : n ≤ 3) (hj : 2 * n ≤ j) (r f : Lanes) :
    (interleave n r f).getLsbD j = false :=
  Nat.testBit_lt_two_pow ((interleave_lt n hn r f).trans_le (Nat.pow_le_pow_right two_pos hj))

/-- Settles O8: the byte's bits are the sample word's, which interleaves the lanes two by two and fits in `2 * n` bits. -/
theorem interleavePlacesEachChannel : Obligations.InterleavePlacesEachChannel := by
  intro n r f hn
  refine ⟨fun i hi => ?lanes, fun j hj => ?padding, ?sentinel⟩
  case lanes =>
    simpa [hi] using getLsbD_interleave n r f (hi.trans_le hn)
  case padding => rw [getLsbD_dataByte, getLsbD_interleave_of_le hn hj]
  case sentinel => decide

end Sys2Proof.Machine
end

section
/-! What a cycle can do, said once: each arm writes its own machine's registers only, and a step that goes on is the
four chosen arms, the Streamer's first, and then the environment. -/

namespace Sys2Proof.Machine

/-- `t` differs from `s` at most in the registers the machine of a format owns (rule R11); an output byte is
written to the queue alone. -/
def WritesOnly : Format → State → State → Prop
  | .cgSelect, s, t => ∃ cnt bclk stbR stbF, t = s.setClock cnt bclk stbR stbF
  | .syncSelect, s, t => ∃ first second, t = s.setSync first second
  | .smpSelect, s, t => ∃ rise fall w count prev code stb,
      t = (((s.setHalves rise fall).setWord w).setCounts count prev).setSampling code stb
  | .strSelect, s, t => ∃ q code, t = (s.setQueue q).setStreamer code
  | .streamByte, s, t => ∃ q, t = s.setQueue q

theorem fifoWrite_writesOnly {b : Byte} {s t : State} (h : fifoWrite b s = .next t) : WritesOnly .streamByte s t :=
  ⟨_, (fifoWrite_eq_next_iff.mp h).2.2⟩

/-- A DATA row that completes is the write primitive in a build of its own channel count. -/
theorem writeDataByte_eq_next_iff {n : Nat} {b : Byte} {s t : State} :
    writeDataByte n b s = .next t ↔ s.cfg.channels = n ∧ fifoWrite b s = .next t := by
  by_cases hn : s.cfg.channels = n <;> simp [writeDataByte, hn]

/-- A Streamer arm that writes a byte and then its state writes no more than these two. -/
theorem fifoWrite_setStreamer_writesOnly {b : Byte} {code : StateCode} {s t : State}
    (h : andThen (fifoWrite b s) (fun u => .next (u.setStreamer code)) = .next t) : WritesOnly .strSelect s t := by
  obtain ⟨u, hu, ht⟩ := andThen_eq_next_iff.mp h
  obtain ⟨q, rfl⟩ := fifoWrite_writesOnly hu
  cases ht
  exact ⟨q, code, rfl⟩

/-- What an arm can do: it writes registers of its own format's machine only. -/
theorem exec_writesOnly {i : Instr} {s t : State} (h : exec i s = .next t) : WritesOnly i.format s t := by
  cases i with
  | cgFallReload | cgRise | cgCount => cases h; exact ⟨_, _, _, _, rfl⟩
  | syncShift => cases h; exact ⟨_, _, rfl⟩
  | smpReport => cases h; exact ⟨s.rise, s.fall, _, _, _, _, _, rfl⟩
  | smpHoldRise | smpHoldFall =>
    cases h; exact ⟨s.rise, s.fall, s.word, s.cycCnt, s.cycCntPrev, _, _, rfl⟩
  | smpCaptureRise => cases h; exact ⟨s.sync2, s.fall, s.word, s.cycCnt, s.cycCntPrev, _, _, rfl⟩
  | smpCaptureFall => cases h; exact ⟨s.rise, s.sync2, s.word, _, _, _, _, rfl⟩
  | strIdleNop | strOvrHold => cases h; exact ⟨s.queue, s.strState, rfl⟩
  | strOverrunDetect | strWait => cases h; exact ⟨s.queue, _, rfl⟩
  | strWriteData | strWriteSentinel => exact fifoWrite_setStreamer_writesOnly h
  | dataN3 d | dataN2 d | dataN1 d => exact fifoWrite_writesOnly (writeDataByte_eq_next_iff.mp h).2
  | sentinel => exact fifoWrite_writesOnly h
  | smpUnreachableFault | strUnreachableFault => cases h

/-- Every row of the opcode table builds instructions of its own format. -/
theorem format_build_of_mem_opcodeRows : ∀ r ∈ opcodeRows, ∀ v, (r.build v).format = r.format := by
  simp [opcodeRows, Instr.format]

theorem format_of_selects {r : Row} {f : Format} {n : Nat} {v : Byte} (h : r.selects f n v = true) : r.format = f := by
  simp only [Row.selects, Bool.and_eq_true, beq_iff_eq] at h
  exact h.1.1

/-- The decoder answers an instruction of the format it was asked for (rule R55). -/
theorem format_of_decode {f : Format} {n : Nat} {v : Byte} {i : Instr} (h : decode f n v = .ok i) : i.format = f := by
  unfold decode at h
  split at h
  case isFalse => cases h
  case isTrue =>
    split at h
    next r hr =>
      cases h
      rw [format_build_of_mem_opcodeRows r (List.mem_of_find?_eq_some hr)]
      have hsel := List.find?_some hr
      exact format_of_selects hsel
    next => cases h

/-- Rule R52: the empty select vector has one row, in every build. -/
@[simp] theorem decode_syncSelect (n : Nat) (s : State) : decode .syncSelect n s.syncSelect = .ok .syncShift := by
  simp [decode, State.syncSelect, Format.width, opcodeRows, Row.selects, Row.forChannels]

theorem armOf_eq_some_iff {d : Except DecodeError Instr} {i : Instr} : armOf d = some i ↔ d = .ok i := by
  cases d <;> simp [armOf, Except.toOption]

/-- A cycle's arms are the four decoded instructions, the synchronizer's always `SYNC_SHIFT` (rules R51 to R55). -/
theorem arms_eq_some_iff {s : State} {a : Arms} : s.arms = some a ↔
    decode .cgSelect s.cfg.channels s.cgSelect = .ok a.clock ∧ a.sync = .syncShift ∧
      decode .smpSelect s.cfg.channels s.smpSelect = .ok a.sampling ∧
      decode .strSelect s.cfg.channels s.strSelect = .ok a.streamer := by
  unfold State.arms
  split
  next c y m r hc hy hm hr =>
    rw [armOf_eq_some_iff] at hc hy hm hr
    obtain rfl : Instr.syncShift = y := by simpa using hy
    obtain ⟨c', y', m', r'⟩ := a
    simp [hc, hm, hr, eq_comm (a := y')]
  next hnone =>
    refine ⟨nofun, fun ⟨hc, _, hm, hr⟩ => ?_⟩
    simp only [armOf_eq_some_iff] at hnone
    exact (hnone _ _ _ _ hc (decode_syncSelect _ s) hm hr).elim

/-- Four arms that go on are a chain of four next states. -/
theorem runArms_eq_next_iff {a : Arms} {s t : State} : runArms a s = .next t ↔
    ∃ s1 s2 s3, exec a.streamer s = .next s1 ∧ exec a.sampling s1 = .next s2 ∧ exec a.sync s2 = .next s3 ∧
      exec a.clock s3 = .next t := by
  simp [runArms, andThen_eq_next_iff]

/-- A step that goes on: the configuration and the input are admitted, the chosen arms run, and the environment's part
follows. -/
theorem step_eq_next_iff {s t : State} : step s = .next t ↔
    s.cfg.legal = true ∧ s.inputProblem = none ∧ ∃ a u, s.arms = some a ∧ runArms a s = .next u ∧
      t = environment s.input.drain s.hostEvents u := by
  unfold step State.runCycle
  split
  next hillegal =>
    rw [Bool.not_eq_true'] at hillegal
    simp [hillegal]
  next hlegal =>
    rw [Bool.not_eq_true', Bool.not_eq_false] at hlegal
    split
    next e hproblem => simp [hproblem]
    next hproblem =>
      split
      next harms => simp [harms]
      next a harms => simp [hlegal, harms, hproblem, andThen_eq_next_iff, eq_comm (a := t)]

/-- What a step that goes on can do: the Streamer, the Sampling State Machine, the synchronizer and the Clock Generator
write each its own registers, in this order, and the environment's part follows. -/
theorem step_writes {s t : State} (h : step s = .next t) :
    ∃ s1 s2 u, WritesOnly .strSelect s s1 ∧ WritesOnly .smpSelect s1 s2 ∧
      WritesOnly .cgSelect (s2.setSync s2.pins s2.sync1) u ∧ t = environment s.input.drain s.hostEvents u := by
  obtain ⟨-, -, a, u, ha, hu, rfl⟩ := step_eq_next_iff.mp h
  obtain ⟨hclock, hsync, hsampling, hstreamer⟩ := arms_eq_some_iff.mp ha
  obtain ⟨s1, s2, s3, h1, h2, h3, h4⟩ := runArms_eq_next_iff.mp hu
  rw [hsync] at h3
  cases h3
  refine ⟨s1, s2, u, ?_, ?_, ?_, rfl⟩
  · exact format_of_decode hstreamer ▸ exec_writesOnly h1
  · exact format_of_decode hsampling ▸ exec_writesOnly h2
  · exact format_of_decode hclock ▸ exec_writesOnly h4

end Sys2Proof.Machine
end

section
/-! The Input Synchronizer (`41_input_synchronizer.md` rule R72). -/

namespace Sys2Proof.Machine

theorem getLsbD_narrow (n : Nat) (v : Lanes) {i : Nat} (hi : i < 3) : (narrow n v).getLsbD i = laneBit n v i := by
  interval_cases i <;> simp only [narrow, BitVec.getLsbD_append, BitVec.getLsbD_ofBool] <;> simp

/-- The pins of a cycle do not depend on the queue, given or drawn. -/
@[simp] theorem State.setQueue_pins (s : State) (q : List Byte) : (s.setQueue q).pins = s.pins := by
  cases hs : s.inputs <;> simp [State.pins, State.input, State.drawn, hs]

/-- `SYNC_SHIFT` writes both stages from what they and the pins held before the cycle (rule R72). -/
theorem exec_syncShift (s : State) : exec .syncShift s = .next (s.setSync s.pins s.sync1) := rfl

/-- Every step shifts the synchronizer: the arms before and after it and the environment keep the pins and both
stages. -/
theorem step_shifts_sync {s t : State} (h : step s = .next t) : t.sync1 = s.pins ∧ t.sync2 = s.sync1 := by
  obtain ⟨_, _, _, ⟨_, _, rfl⟩, ⟨_, _, _, _, _, _, _, rfl⟩, ⟨_, _, _, _, rfl⟩, rfl⟩ := step_writes h
  simp

/-- Settles O12: the arm by its equation, the pins lane by lane, and the shift in every step. -/
theorem synchronizerShifts : Obligations.SynchronizerShifts := by
  intro s
  exact ⟨exec_syncShift s, fun i hi => getLsbD_narrow _ _ hi, fun t ht => step_shifts_sync ht⟩

end Sys2Proof.Machine
end

section
/-! The cycle counter and its dead latch (`42_sampling_fsm.md` rules R83 to R85): every arm runs alike whatever the two
hold, and nothing a cycle decides by or puts out reads them. -/

namespace Sys2Proof.Machine

variable {s t : State} (k p : SampleWord)

/-- The write primitive neither reads nor writes the counters. -/
theorem fifoWrite_setCounts {b : Byte} (h : fifoWrite b s = .next t) :
    fifoWrite b (s.setCounts k p) = .next (t.setCounts k p) := by
  obtain ⟨hroom, hslot, rfl⟩ := fifoWrite_eq_next_iff.mp h
  exact fifoWrite_of_room hroom hslot

/-- A DATA row neither reads nor writes the counters. -/
theorem writeDataByte_setCounts {n : Nat} {b : Byte} (h : writeDataByte n b s = .next t) :
    writeDataByte n b (s.setCounts k p) = .next (t.setCounts k p) := by
  obtain ⟨hn, hw⟩ := writeDataByte_eq_next_iff.mp h
  exact writeDataByte_eq_next_iff.mpr ⟨hn, fifoWrite_setCounts k p hw⟩

/-- A Streamer arm that writes a byte and then its state neither reads nor writes the counters. -/
theorem fifoWrite_setStreamer_setCounts {b : Byte} {code : StateCode}
    (h : andThen (fifoWrite b s) (fun u => .next (u.setStreamer code)) = .next t) :
    andThen (fifoWrite b (s.setCounts k p)) (fun u => .next (u.setStreamer code)) = .next (t.setCounts k p) := by
  obtain ⟨u, hu, ht⟩ := andThen_eq_next_iff.mp h
  cases ht
  exact andThen_eq_next_iff.mpr ⟨_, fifoWrite_setCounts k p hu, rfl⟩

/-- Other counter values before an arm change at most the counter values after it: only `SMP_REPORT` and
`SMP_CAPTURE_FALL` read the counter, and each into a counter register (rules R79, R83). -/
theorem exec_setCounts {i : Instr} (h : exec i s = .next t) :
    ∃ k' p', exec i (s.setCounts k p) = .next (t.setCounts k' p') := by
  cases i with
  | smpReport => cases h; exact ⟨k, k, rfl⟩
  | smpCaptureFall => cases h; exact ⟨nextCount s.cfg k, p, rfl⟩
  | cgFallReload | cgRise | cgCount | syncShift | smpHoldRise | smpCaptureRise | smpHoldFall | strIdleNop
  | strOverrunDetect | strOvrHold | strWait => cases h; exact ⟨k, p, rfl⟩
  | strWriteData | strWriteSentinel => exact ⟨k, p, fifoWrite_setStreamer_setCounts k p h⟩
  | dataN3 d | dataN2 d | dataN1 d => exact ⟨k, p, writeDataByte_setCounts k p h⟩
  | sentinel => exact ⟨k, p, fifoWrite_setCounts k p h⟩
  | smpUnreachableFault | strUnreachableFault => cases h

theorem runArms_setCounts {a : Arms} (h : runArms a s = .next t) :
    ∃ k' p', runArms a (s.setCounts k p) = .next (t.setCounts k' p') := by
  obtain ⟨s1, s2, s3, h1, h2, h3, h4⟩ := runArms_eq_next_iff.mp h
  obtain ⟨k1, p1, e1⟩ := exec_setCounts k p h1
  obtain ⟨k2, p2, e2⟩ := exec_setCounts k1 p1 h2
  obtain ⟨k3, p3, e3⟩ := exec_setCounts k2 p2 h3
  obtain ⟨k4, p4, e4⟩ := exec_setCounts k3 p3 h4
  exact ⟨k4, p4, runArms_eq_next_iff.mpr ⟨_, _, _, e1, e2, e3, e4⟩⟩

@[simp] theorem State.setCounts_inputProblem : (s.setCounts k p).inputProblem = s.inputProblem := rfl

/-- The four select vectors read no counter, so the cycle takes the same arms (rules R51 to R54). -/
@[simp] theorem State.setCounts_arms : (s.setCounts k p).arms = s.arms := rfl

/-- The environment's part of a cycle neither reads nor writes the counters. -/
theorem environment_setCounts (drain : Nat) (es : List HostEvent) :
    environment drain es (s.setCounts k p) = (environment drain es s).setCounts k p := rfl

/-- A step from other counter values takes the same arms to the same next state but for the counters. -/
theorem step_setCounts (h : step s = .next t) : ∃ k' p', step (s.setCounts k p) = .next (t.setCounts k' p') := by
  obtain ⟨hlegal, hinput, a, u, ha, hu, rfl⟩ := step_eq_next_iff.mp h
  obtain ⟨k', p', hu'⟩ := runArms_setCounts k p hu
  refine ⟨k', p', step_eq_next_iff.mpr ⟨hlegal, ?_, a, u.setCounts k' p', ?_, hu', ?_⟩⟩
  · rw [State.setCounts_inputProblem, hinput]
  · rw [State.setCounts_arms, ha]
  · rw [environment_setCounts, State.setCounts_input, State.setCounts_hostEvents]

/-- Settles O52: the step by `step_setCounts`; the outputs read the Streamer's state, the word, its strobe, room and
`bclk` only. -/
theorem cycleCountersFeedNoOutput : Obligations.CycleCountersFeedNoOutput := by
  intro s t k p h
  exact ⟨step_setCounts k p h, rfl, rfl, rfl⟩

end Sys2Proof.Machine
end

section
/-! The FIFO Streamer (`43_fifo_streamer.md` rules R90 to R96): what a row's match says of the fields its select value
was packed from, and what the write port carries. -/

namespace Sys2Proof.Machine

variable {s : State}

/-- Appended bit vectors are masked and compared piece by piece. -/
theorem append_and_append_eq_iff {m n : Nat} {x a v : BitVec m} {y b w : BitVec n} :
    (x ++ y) &&& (a ++ b) = v ++ w ↔ x &&& a = v ∧ y &&& b = w := by
  rw [BitVec.and_append]
  refine ⟨fun h => ⟨?_, ?_⟩, fun ⟨hx, hy⟩ => hx ▸ hy ▸ rfl⟩
  · simpa only [BitVec.extractLsb'_append_eq_left] using congrArg (BitVec.extractLsb' n m) h
  · simpa only [BitVec.extractLsb'_append_eq_right] using congrArg (BitVec.extractLsb' 0 n) h

/-- Rule R54 read back through a row's mask: the code stands in bits 3 and 2, `word_stb` and `room` in the two below,
and each of these two is compared where the mask has its bit. -/
theorem strSelect_and_eq_iff (code : StateCode) (stbMask roomMask stb room : Bool) :
    s.strSelect &&& ((0 : BitVec 4) ++ (0b11 : BitVec 2) ++ BitVec.ofBool stbMask ++ BitVec.ofBool roomMask) =
        (0 : BitVec 4) ++ code ++ BitVec.ofBool stb ++ BitVec.ofBool room ↔
      s.strState = code ∧ (s.wordStb && stbMask) = stb ∧ (s.room && roomMask) = room := by
  have hones : s.strState &&& 0b11 = s.strState := BitVec.and_allOnes
  refine (append_and_append_eq_iff (m := 4 + 2 + 1) (n := 1)).trans ?_
  rw [append_and_append_eq_iff, append_and_append_eq_iff, hones]
  simp [BitVec.ofBool_eq_iff_eq, and_assoc]

/-- The write port is enabled with room only, for a new word in `IDLE` or a pending overrun (rules R90, R92, R95). -/
theorem State.we_eq (s : State) :
    s.we = (((s.strState == strIdle && s.wordStb) || s.strState == strReportOverrun) && s.room) := by
  simp [State.we, State.writesData, State.writesSentinel, Bool.and_or_distrib_right]

/-- Nothing written, nothing on the write port (rule R90). -/
theorem State.din_of_we_eq_false (h : s.we = false) : s.din = 0x00 := by
  obtain ⟨hdata, hsentinel⟩ := Bool.or_eq_false_iff.mp h
  simp [State.din, hdata, hsentinel]

/-- A pending overrun that meets room puts the sentinel on the write port (rule R95). -/
theorem State.din_of_reportOverrun (hcode : s.strState = strReportOverrun) (hroom : s.room = true) :
    s.din = sentinelByte := by
  simp [State.din, State.writesData, State.writesSentinel, hcode, hroom]

/-- `STR_WRITE_SENTINEL` with room and a slot: the sentinel at the tail, and back to `IDLE` (rule R95). -/
theorem exec_strWriteSentinel (hroom : s.room = true) (hslot : s.hasSlot = true) :
    exec .strWriteSentinel s = .next ((s.setQueue (s.queue ++ [sentinelByte])).setStreamer strIdle) := by
  change andThen (fifoWrite sentinelByte s) (fun t => .next (leaveOverrun t)) = _
  rw [fifoWrite_of_room hroom hslot, andThen_next, leaveOverrun_eq]

/-- Settles O19: in `IDLE` without a word the write port is idle, and the arm is the identity. -/
theorem idleNopChangesNothing : Obligations.IdleNopChangesNothing := by
  intro s h
  obtain ⟨hcode, hstb, -⟩ := (strSelect_and_eq_iff 0b00 true false false false).mp h
  rw [Bool.and_true] at hstb
  have hwe : s.we = false := by simp [State.we_eq, hcode, hstb]
  exact ⟨hcode, hwe, State.din_of_we_eq_false hwe, rfl⟩

/-- Settles O20: without room nothing is written, and the arm writes the Streamer's state alone. -/
theorem overrunDetectDropsTheWord : Obligations.OverrunDetectDropsTheWord := by
  intro s h
  have hmasked : s.strSelect &&& 0xF = 0x2 := by rw [h]; rfl
  obtain ⟨-, -, hroom⟩ := (strSelect_and_eq_iff 0b00 true true true false).mp hmasked
  rw [Bool.and_true] at hroom
  have hwe : s.we = false := by simp [State.we_eq, hroom]
  exact ⟨hwe, State.din_of_we_eq_false hwe, rfl⟩

/-- Settles O22: without room nothing is written, and the arm is the identity. -/
theorem overrunHoldChangesNothing : Obligations.OverrunHoldChangesNothing := by
  intro s h
  obtain ⟨hcode, -, hroom⟩ := (strSelect_and_eq_iff 0b01 false true false false).mp h
  rw [Bool.and_true] at hroom
  have hwe : s.we = false := by simp [State.we_eq, hroom]
  exact ⟨hcode, hwe, State.din_of_we_eq_false hwe, rfl⟩

/-- Settles O23: a pending overrun with room and a slot, by the equation of the arm. -/
theorem writeSentinelAppendsTheSentinel : Obligations.WriteSentinelAppendsTheSentinel := by
  intro s h hfree
  obtain ⟨hcode, -, hroom⟩ := (strSelect_and_eq_iff 0b01 false true false true).mp h
  rw [Bool.and_true] at hroom
  have hwe : s.we = true := by simp [State.we_eq, hcode, hroom]
  exact ⟨hwe, State.din_of_reportOverrun hcode hroom, exec_strWriteSentinel hroom (hasSlot_iff.mpr hfree)⟩

/-- Settles O24: in `WAIT` nothing is written, and the arm writes the Streamer's state alone. -/
theorem waitReturnsToIdle : Obligations.WaitReturnsToIdle := by
  intro s h
  obtain ⟨hcode, -, -⟩ := (strSelect_and_eq_iff 0b10 false false false false).mp h
  have hwe : s.we = false := by simp [State.we_eq, hcode]
  exact ⟨hwe, State.din_of_we_eq_false hwe, rfl⟩

end Sys2Proof.Machine
end

section
/-! The host consumer's answers (`48_host_consumer.md` rules R105 to R111): what a delivered chunk does to a consumer that
still requests; a chunk that holds no byte does nothing. -/

namespace Sys2Proof.Machine

/-- A chunk of no bytes is a spurious wake (rule R106). -/
@[simp] theorem Consumer.takeChunk_nil (c : Consumer) (threshold : Nat) (e : HostEvent) :
    c.takeChunk threshold [] e = c := rfl

/-- A chunk requested: its bytes are taken from the front of those in flight (rules R103, R105). -/
theorem Consumer.answer_of_chunk {c : Consumer} {e : HostEvent} {n : Nat} (hphase : c.phase = .requesting)
    (hresult : e.result = .chunk n) (threshold : Nat) (bytes : List Byte) :
    Consumer.answer threshold (c, bytes) e = (c.takeChunk threshold (bytes.take n) e, bytes.drop n) := by
  simp only [Consumer.answer, hphase, hresult]

/-- Settles O54: after the loop's exit no answer changes anything; before it, a chunk cut at length 0 or from no bytes in
flight takes nothing from them and gives the consumer the empty chunk. -/
theorem emptyChunkChangesNothing : Obligations.EmptyChunkChangesNothing := by
  intro threshold c bytes e hempty
  cases hphase : c.phase with
  | exited path => exact answer_of_exited hphase bytes e
  | requesting =>
    obtain hzero | ⟨rfl, n, hchunk⟩ := hempty
    · rw [Consumer.answer_of_chunk hphase hzero, List.take_zero, List.drop_zero, Consumer.takeChunk_nil]
    · rw [Consumer.answer_of_chunk hphase hchunk, List.take_nil, List.drop_nil, Consumer.takeChunk_nil]

end Sys2Proof.Machine
end

section
/-! The opcode table as a decoder (`30_encoding.md` rule R55): a value is in at most one row of a format and a build, so
the row that takes it is the one the decoder finds. -/

namespace Sys2Proof.Machine

theorem selects_iff {r : Row} {f : Format} {n : Nat} {v : Byte} :
    r.selects f n v = true ↔ r.format = f ∧ r.forChannels n = true ∧ v &&& r.mask = r.code := by
  simp [Row.selects, and_assoc]

theorem forChannels_iff {r : Row} {n : Nat} : r.forChannels n = true ↔ ∀ m, r.channels = some m → m = n := by
  unfold Row.forChannels
  split <;> simp [*]

/-- Two rows that take one value in one build differ in none of the three ways rows are apart. -/
theorem not_apart_of_selects {a b : Row} {f : Format} {n : Nat} {v : Byte} (ha : a.selects f n v = true)
    (hb : b.selects f n v = true) : a.apart b = false := by
  obtain ⟨hfa, hna, hva⟩ := selects_iff.mp ha
  obtain ⟨hfb, hnb, hvb⟩ := selects_iff.mp hb
  rw [forChannels_iff] at hna hnb
  have hbits : (a.code ^^^ b.code) &&& a.mask &&& b.mask = 0 := by
    rw [← hva, ← hvb]
    ext i hi
    simp only [BitVec.getElem_and, BitVec.getElem_xor, BitVec.ofNat_eq_ofNat, BitVec.getElem_zero]
    cases v[i] <;> cases a.mask[i] <;> cases b.mask[i] <;> rfl
  have hchannels : (a.channels.isSome && b.channels.isSome && a.channels != b.channels) = false := by
    cases hca : a.channels <;> cases hcb : b.channels <;> simp_all
  simp [Row.apart, hfa, hfb, hbits, hchannels]

/-- The row that takes a value is the only one (rule R55). -/
theorem filter_selects_eq {r : Row} {f : Format} {n : Nat} {v : Byte} (hr : r ∈ opcodeRows)
    (hsel : r.selects f n v = true) : opcodeRows.filter (fun x => x.selects f n v) = [r] := by
  have hmem : r ∈ opcodeRows.filter (fun x => x.selects f n v) := List.mem_filter.mpr ⟨hr, hsel⟩
  have hall : ∀ x ∈ opcodeRows.filter (fun x => x.selects f n v), x.selects f n v = true :=
    fun x hx => (List.mem_filter.mp hx).2
  have hapart := opcodeRows_pairwise_apart.filter (fun x => x.selects f n v)
  match hl : opcodeRows.filter (fun x => x.selects f n v) with
  | [] => simp [hl] at hmem
  | [x] => simpa [hl, eq_comm] using hmem
  | x :: y :: l =>
    rw [hl] at hall hapart
    have hxy : x.apart y = true := List.rel_of_pairwise_cons hapart (by simp)
    rw [not_apart_of_selects (hall x (by simp)) (hall y (by simp))] at hxy
    cases hxy

/-- The decoder answers exactly the instruction of the row that takes a value of the format's width. -/
theorem decode_eq_ok_iff {f : Format} {n : Nat} {v : Byte} {i : Instr} : decode f n v = .ok i ↔
    v.toNat < 2 ^ f.width ∧ ∃ r ∈ opcodeRows, r.selects f n v = true ∧ i = r.build v := by
  unfold decode
  split
  case isFalse hwide => simp [hwide]
  case isTrue hfits =>
    simp only [hfits, true_and]
    constructor
    · intro h
      split at h
      next r hfind =>
        cases h
        exact ⟨r, List.mem_of_find?_eq_some hfind, List.find?_some (p := fun x : Row => x.selects f n v) hfind, rfl⟩
      next => cases h
    · rintro ⟨r, hr, hsel, rfl⟩
      have hfind : opcodeRows.find? (fun x => x.selects f n v) = some r := by
        rw [← List.head?_filter, filter_selects_eq hr hsel, List.head?_cons]
      simp [hfind]

/-- A decoded value is in one row only, and the instruction is that row's (rule R55). -/
theorem onlyRow_of_decode {f : Format} {n : Nat} {v : Byte} {i : Instr} (h : decode f n v = .ok i) :
    OnlyRow f n v i := by
  obtain ⟨-, r, hr, hsel, hi⟩ := decode_eq_ok_iff.mp h
  exact ⟨format_of_decode h, r, filter_selects_eq hr hsel, hi⟩

/-- A DATA operand zero-extended to a byte leaves the row's fixed bits 0 (rule R56). -/
theorem setWidth_operand :
    (∀ d : BitVec 6, d.setWidth 8 &&& 0xC0#8 = 0#8) ∧ (∀ d : BitVec 4, d.setWidth 8 &&& 0xF0#8 = 0#8) ∧
    (∀ d : BitVec 2, d.setWidth 8 &&& 0xFC#8 = 0#8) := by decide

/-- A byte whose fixed bits are 0 is its operand zero-extended (rule R56). -/
theorem setWidth_setWidth_of_and_eq_zero :
    (∀ v : Byte, v &&& 0xC0#8 = 0#8 → (v.setWidth 6).setWidth 8 = v) ∧
    (∀ v : Byte, v &&& 0xF0#8 = 0#8 → (v.setWidth 4).setWidth 8 = v) ∧
    (∀ v : Byte, v &&& 0xFC#8 = 0#8 → (v.setWidth 2).setWidth 8 = v) := by decide

/-- The row of an instruction takes its encoding, in the builds the instruction belongs to, and builds the
instruction from it. -/
theorem exists_row_of_encode {i : Instr} {n : Nat} (h : i.wellFormed n = true) :
    ∃ r ∈ opcodeRows, r.selects i.format n (encode i) = true ∧ i = r.build (encode i) := by
  obtain ⟨h3, h2, h1⟩ := setWidth_operand
  cases i with
  | dataN3 d | dataN2 d | dataN1 d =>
    have hn : _ = n := (beq_iff_eq.mp h).symm
    simp [opcodeRows, selects_iff, forChannels_iff, Instr.format, encode, hn, h3, h2, h1]
  | _ => simp [opcodeRows, selects_iff, forChannels_iff, Instr.format, encode]

/-- What a row builds from a value it takes belongs to the build and encodes the value's fixed bits. -/
theorem build_of_selects {r : Row} {f : Format} {n : Nat} {v : Byte} (hr : r ∈ opcodeRows)
    (hsel : r.selects f n v = true) : (r.build v).wellFormed n = true ∧
      v &&& (r.build v).fixedBits = encode (r.build v) &&& (r.build v).fixedBits := by
  obtain ⟨-, hn, hv⟩ := selects_iff.mp hsel
  rw [forChannels_iff] at hn
  obtain ⟨h3, h2, h1⟩ := setWidth_setWidth_of_and_eq_zero
  simp only [opcodeRows, List.mem_cons, List.not_mem_nil, or_false] at hr
  rcases hr with rfl | rfl | rfl | rfl | rfl | rfl | rfl | rfl | rfl | rfl | rfl | rfl | rfl | rfl | rfl | rfl | rfl |
    rfl | rfl | rfl | rfl <;>
  simp_all [Instr.wellFormed, Instr.fixedBits, encode]

/-- An encoding fits its format's width (rule R48). -/
theorem encode_lt (i : Instr) : (encode i).toNat < 2 ^ i.format.width := by
  cases i with
  | dataN3 d => exact Laws.EncodingFits.dataN3 d
  | dataN2 d => exact Laws.EncodingFits.dataN2 d
  | dataN1 d => exact Laws.EncodingFits.dataN1 d
  | _ => decide

/-- Settles O1: the instruction's row takes its encoding, and the row that takes a value is the decoder's. -/
theorem decodeOfEncodeIsTheInstruction : Obligations.DecodeOfEncodeIsTheInstruction := by
  intro i n h
  exact decode_eq_ok_iff.mpr ⟨encode_lt i, exists_row_of_encode h⟩

/-- Settles O2: a decoded value is in its instruction's row, which fixes the bits. -/
theorem decodedValueMatchesItsEncoding : Obligations.DecodedValueMatchesItsEncoding := by
  intro f n v i h
  obtain ⟨-, r, hr, hsel, rfl⟩ := decode_eq_ok_iff.mp h
  exact ⟨format_of_decode h, build_of_selects hr hsel⟩

/-- Settles O4, each value by evaluating the decoder. -/
theorem wordsOfEachFormatDecode : Obligations.WordsOfEachFormatDecode := by
  unfold Obligations.WordsOfEachFormatDecode
  decide

end Sys2Proof.Machine
end

section
/-! The arms of a cycle by the registers that choose them (rules R51 to R55): what each select vector decodes to. -/

namespace Sys2Proof.Machine

/-- The Clock Generator's arm by its two compares: reload at 0, rise at the half period, else count (rule R51). -/
def clockArm (zero half : Bool) : Instr := if zero then .cgFallReload else if half then .cgRise else .cgCount

/-- The Sampling State Machine's arm by its state code and the two strobes (rule R53). -/
def samplingArm (code : StateCode) (stbR stbF : Bool) : Instr :=
  if code = smpReport then .smpReport
  else if code = smpWaitRising then (if stbR then .smpCaptureRise else .smpHoldRise)
  else if code = smpWaitFalling then (if stbF then .smpCaptureFall else .smpHoldFall)
  else .smpUnreachableFault

/-- The Streamer's arm by its state code, `word_stb` and `room` (rule R54). -/
def streamerArm (code : StateCode) (wordStb room : Bool) : Instr :=
  if code = strIdle then (if wordStb then (if room then .strWriteData else .strOverrunDetect) else .strIdleNop)
  else if code = strReportOverrun then (if room then .strWriteSentinel else .strOvrHold)
  else if code = strWait then .strWait
  else .strUnreachableFault

/-- The select formats' rows are in every build, so the channel count decides nothing (rules R51 to R54). -/
theorem decode_of_ne_streamByte {f : Format} (hf : f ≠ .streamByte) (n m : Nat) (v : Byte) :
    decode f n v = decode f m v := by
  have hnone : ∀ r ∈ opcodeRows, r.format ≠ .streamByte → r.channels = none := by decide
  have hsel : ∀ r ∈ opcodeRows, r.selects f n v = r.selects f m v := by
    intro r hr
    by_cases hrf : r.format = f
    · simp [Row.selects, Row.forChannels, hnone r hr (hrf ▸ hf)]
    · simp [Row.selects, beq_eq_false_iff_ne.mpr hrf]
  simp only [decode, List.find?_congr hsel]

/-- The two compares of a legal configuration never hold together (rule R51). -/
theorem not_atZero_and_atHalf {s : State} (h : s.cfg.legal = true) : ¬(s.atZero = true ∧ s.atHalf = true) := by
  have hbounds := halfPeriod_bounds h
  simp only [State.atZero, State.atHalf, beq_iff_eq]
  omega

theorem decode_cgSelect {s : State} (h : s.cfg.legal = true) (n : Nat) :
    decode .cgSelect n s.cgSelect = .ok (clockArm s.atZero s.atHalf) := by
  have hall : ∀ zero half : Bool, ¬(zero = true ∧ half = true) →
      decode .cgSelect 0 ((0 : BitVec 6) ++ BitVec.ofBool zero ++ BitVec.ofBool half) = .ok (clockArm zero half) := by
    decide
  rw [decode_of_ne_streamByte (by decide) n 0]
  exact hall _ _ (not_atZero_and_atHalf h)

theorem decode_smpSelect (s : State) (n : Nat) :
    decode .smpSelect n s.smpSelect = .ok (samplingArm s.smpState s.stbR s.stbF) := by
  have hall : ∀ (code : StateCode) (stbR stbF : Bool),
      decode .smpSelect 0 ((0 : BitVec 4) ++ code ++ BitVec.ofBool stbR ++ BitVec.ofBool stbF) =
        .ok (samplingArm code stbR stbF) := by decide
  rw [decode_of_ne_streamByte (by decide) n 0]
  exact hall _ _ _

theorem decode_strSelect (s : State) (n : Nat) :
    decode .strSelect n s.strSelect = .ok (streamerArm s.strState s.wordStb s.room) := by
  have hall : ∀ (code : StateCode) (wordStb room : Bool),
      decode .strSelect 0 ((0 : BitVec 4) ++ code ++ BitVec.ofBool wordStb ++ BitVec.ofBool room) =
        .ok (streamerArm code wordStb room) := by decide
  rw [decode_of_ne_streamByte (by decide) n 0]
  exact hall _ _ _

/-- The four arms of a cycle, by the registers of the four machines. -/
def State.chosenArms (s : State) : Arms :=
  { clock := clockArm s.atZero s.atHalf
    sync := .syncShift
    sampling := samplingArm s.smpState s.stbR s.stbF
    streamer := streamerArm s.strState s.wordStb s.room }

theorem arms_of_legal {s : State} (h : s.cfg.legal = true) : s.arms = some s.chosenArms :=
  arms_eq_some_iff.mpr ⟨decode_cgSelect h _, rfl, decode_smpSelect s _, decode_strSelect s _⟩

/-- The Streamer takes the arm its state code, `word_stb` and `room` choose. -/
theorem streamerTakes_iff {s : State} {i : Instr} :
    s.streamerTakes i = true ↔ streamerArm s.strState s.wordStb s.room = i := by
  simp [State.streamerTakes, decode_strSelect, armOf, Except.toOption]

/-- Settles O3: a legal configuration's select vectors all decode, and a decoded value is in one row. -/
theorem everySelectVectorPicksOneRow : Obligations.EverySelectVectorPicksOneRow := by
  intro s h
  exact ⟨s.chosenArms, arms_of_legal h, onlyRow_of_decode (decode_cgSelect h _),
    onlyRow_of_decode (decode_syncSelect _ s), onlyRow_of_decode (decode_smpSelect s _),
    onlyRow_of_decode (decode_strSelect s _)⟩

end Sys2Proof.Machine
end

section
/-! The bytes of the stream and the stimulus word (`30_encoding.md` section 4 and section 6): which bytes are DATA,
what a reader gets back from them, and which row writes them. -/

namespace Sys2Proof.Machine

/-- A byte below `2 ^ m` is its low `m` bits zero-extended. -/
theorem setWidth_setWidth_of_lt {m : Nat} {b : Byte} (h : b.toNat < 2 ^ m) : (b.setWidth m).setWidth 8 = b := by
  apply BitVec.eq_of_toNat_eq
  rw [BitVec.toNat_setWidth, BitVec.toNat_setWidth, Nat.mod_eq_of_lt h, Nat.mod_eq_of_lt b.isLt]

theorem toNat_setWidth_byte_lt {m : Nat} (hm : m ≤ 8) (d : BitVec m) : (d.setWidth 8).toNat < 2 ^ m := by
  rw [BitVec.toNat_setWidth_of_le hm]
  exact d.isLt

/-- A DATA byte of an `n`-channel build is in one row of it, and that row is the write primitive (rule R56; log entry
8). -/
theorem exists_dataRow {n : Nat} {b : Byte} (hn : 1 ≤ n ∧ n ≤ 3) (hb : b.toNat < 2 ^ (2 * n)) :
    ∃ i : Instr, decode .streamByte n b = .ok i ∧ i ≠ .sentinel ∧
      ∀ s : State, s.cfg.channels = n → exec i s = fifoWrite b s := by
  have hbyte := setWidth_setWidth_of_lt hb
  have hdecode : ∀ i : Instr, i.wellFormed n = true → i.format = .streamByte → encode i = b →
      decode .streamByte n b = .ok i := by
    rintro i hi hf rfl
    exact hf ▸ decodeOfEncodeIsTheInstruction i n hi
  have hexec : ∀ s : State, s.cfg.channels = n →
      writeDataByte n ((b.setWidth (2 * n)).setWidth 8) s = fifoWrite b s := by
    intro s hs
    simp [writeDataByte, hs, hbyte]
  obtain rfl | rfl | rfl : n = 1 ∨ n = 2 ∨ n = 3 := by omega
  · exact ⟨.dataN1 (b.setWidth 2), hdecode _ rfl rfl hbyte, nofun, hexec⟩
  · exact ⟨.dataN2 (b.setWidth 4), hdecode _ rfl rfl hbyte, nofun, hexec⟩
  · exact ⟨.dataN3 (b.setWidth 6), hdecode _ rfl rfl hbyte, nofun, hexec⟩

/-- An instruction that is an output byte is the sentinel, or a DATA row whose byte fits in the build's `2 * n` bits. -/
theorem sentinel_or_encode_lt {i : Instr} {n : Nat} (hf : i.format = .streamByte) (hi : i.wellFormed n = true) :
    i = .sentinel ∨ (encode i).toNat < 2 ^ (2 * n) := by
  cases i with
  | dataN3 d | dataN2 d | dataN1 d =>
    obtain rfl : n = _ := beq_iff_eq.mp hi
    exact .inr (toNat_setWidth_byte_lt (by decide) d)
  | sentinel => exact .inl rfl
  | _ => cases hf

/-- A byte that decodes is the byte of its instruction. -/
theorem encode_of_decode_streamByte {n : Nat} {b : Byte} {i : Instr} (h : decode .streamByte n b = .ok i) :
    encode i = b := by
  obtain ⟨hf, -, hbits⟩ := decodedValueMatchesItsEncoding .streamByte n b i h
  have hfixed : i.fixedBits = BitVec.allOnes 8 := by
    cases i with
    | dataN3 d | dataN2 d | dataN1 d | sentinel => rfl
    | _ => cases hf
  rw [hfixed, BitVec.and_allOnes, BitVec.and_allOnes] at hbits
  exact hbits.symm

/-- A reader takes 0xFF as the overrun sentinel in every build (rule R57). -/
theorem readStreamByte_sentinel (n : Nat) : readStreamByte n 0xFF = .overrun := by
  have h : decode .streamByte n 0xFF = .ok .sentinel := decodeOfEncodeIsTheInstruction .sentinel n rfl
  simp only [readStreamByte, h]

/-- A reader takes a byte below `2^W` as DATA (rule R56). -/
theorem readStreamByte_of_lt {n : Nat} {b : Byte} (hn : 1 ≤ n ∧ n ≤ 3) (hb : b.toNat < 2 ^ (2 * n)) :
    readStreamByte n b = .data (risingBits b) (fallingBits b) := by
  obtain ⟨i, hi, hne, -⟩ := exists_dataRow hn hb
  unfold readStreamByte
  rw [hi]
  split
  next h => cases h; exact (hne rfl).elim
  next => rfl
  next h => cases h

/-- A reader takes every other byte as invalid (rule R58; decision D13). -/
theorem readStreamByte_of_reserved {n : Nat} {b : Byte} (hb : 2 ^ (2 * n) ≤ b.toNat) (hne : b ≠ 0xFF) :
    readStreamByte n b = .invalid := by
  unfold readStreamByte
  cases h : decode .streamByte n b with
  | error => rfl
  | ok i =>
    obtain ⟨hf, hi, -⟩ := decodedValueMatchesItsEncoding .streamByte n b i h
    have hbyte := encode_of_decode_streamByte h
    obtain rfl | hlt := sentinel_or_encode_lt hf hi
    · exact (hne hbyte.symm).elim
    · rw [hbyte] at hlt
      omega

/-- The low bits of an interleaved word are the rising values, lane by lane (rule R39). -/
theorem risingBits_dataByte (n : Nat) (r f : Lanes) : risingBits (dataByte (interleave n r f)) = narrow n r := by
  have h := fun i hi => (getLsbD_interleave n r f (i := i) hi).1
  simp only [risingBits, narrow, getLsbD_dataByte, ← h 0 (by decide), ← h 1 (by decide), ← h 2 (by decide)]

theorem fallingBits_dataByte (n : Nat) (r f : Lanes) : fallingBits (dataByte (interleave n r f)) = narrow n f := by
  have h := fun i hi => (getLsbD_interleave n r f (i := i) hi).2
  simp only [fallingBits, narrow, getLsbD_dataByte, ← h 0 (by decide), ← h 1 (by decide), ← h 2 (by decide)]

/-- Zero extension keeps a sample word's value (rule R56). -/
@[simp] theorem toNat_dataByte (w : SampleWord) : (dataByte w).toNat = w.toNat :=
  BitVec.toNat_setWidth_of_le (by decide)

/-- Settles O5: the interleaved word is a DATA byte, and its even and odd bits are the two values' lanes. -/
theorem dataByteReadsBackItsSamples : Obligations.DataByteReadsBackItsSamples := by
  intro n r f h1 h3
  have hlt : (dataByte (interleave n r f)).toNat < 2 ^ (2 * n) := by
    rw [toNat_dataByte]
    exact interleave_lt n h3 r f
  rw [readStreamByte_of_lt ⟨h1, h3⟩ hlt, risingBits_dataByte, fallingBits_dataByte]

/-- Settles O6: the sentinel, a byte below `2^W` and every other byte have one verdict each. -/
theorem streamBytesAreDataSentinelOrInvalid : Obligations.StreamBytesAreDataSentinelOrInvalid := by
  intro n b h1 h3
  have hW : 2 ^ (2 * n) < (0xFF : Byte).toNat :=
    (Nat.pow_le_pow_right two_pos (Nat.mul_le_mul_left 2 h3)).trans_lt (by decide)
  by_cases hsentinel : b = 0xFF
  · subst hsentinel
    rw [readStreamByte_sentinel]
    simpa using hW.le
  · by_cases hlt : b.toNat < 2 ^ (2 * n)
    · rw [readStreamByte_of_lt ⟨h1, h3⟩ hlt]
      simpa [hlt] using hsentinel
    · rw [readStreamByte_of_reserved (not_lt.mp hlt) hsentinel]
      simpa [not_lt.mp hlt] using hsentinel

/-- Rule R61's three fields of a stimulus word, and its zero bits. -/
theorem encodeStimulus_fields (x : Stimulus) :
    encodeStimulus x &&& 0x78 = 0 ∧ (encodeStimulus x).setWidth 3 = x.pins ∧ (encodeStimulus x).getLsbD 7 = x.room := by
  have hall : ∀ (room : Bool) (pins : Lanes), let word := BitVec.ofBool room ++ (0 : BitVec 4) ++ pins
      word &&& 0x78 = 0 ∧ word.setWidth 3 = pins ∧ word.getLsbD 7 = room := by decide
  exact hall x.room x.pins

/-- A stimulus word decodes to its own room and pins, if the build has a channel for each pin (rule R61). -/
theorem decodeStimulus_encodeStimulus (n : Nat) (x : Stimulus) : decodeStimulus n (encodeStimulus x) =
    if x.pins.toNat < 2 ^ n then .ok { x with drain := 0, host := none } else .error .pinsBeyondChannels := by
  obtain ⟨hzeros, hpins, hroom⟩ := encodeStimulus_fields x
  unfold decodeStimulus
  rw [hzeros, hpins, hroom]
  rfl

/-- Settles O7: the word decodes to its own fields, and its bits are theirs. -/
theorem stimulusWordCarriesRoomAndPins : Obligations.StimulusWordCarriesRoomAndPins := by
  intro n x
  obtain ⟨hzeros, hpins, hroom⟩ := encodeStimulus_fields x
  rw [decodeStimulus_encodeStimulus]
  refine ⟨fun hfit => if_pos (of_decide_eq_true hfit), fun hunfit => if_neg (of_decide_eq_false hunfit), hroom,
    fun j hj => ?pinBits, fun j h3 h7 => ?zeroBits⟩
  case pinBits =>
    rw [← hpins, BitVec.getLsbD_setWidth]
    simp [hj]
  case zeroBits =>
    have hbit := congrArg (fun b => BitVec.getLsbD b j) hzeros
    interval_cases j <;> simpa using hbit

end Sys2Proof.Machine
end

section
/-! The arms of the Clock Generator (`40_clock_generator.md` rules R64 to R66), read at their select values. -/

namespace Sys2Proof.Machine

/-- Rule R51 read back: the two bits of `cg_select` are the two compares. -/
theorem cgSelect_eq_iff {s : State} (zero half : Bool) :
    s.cgSelect = (0 : BitVec 6) ++ BitVec.ofBool zero ++ BitVec.ofBool half ↔ s.atZero = zero ∧ s.atHalf = half := by
  have hall : ∀ z h z' h' : Bool, (0 : BitVec 6) ++ BitVec.ofBool z ++ BitVec.ofBool h =
      (0 : BitVec 6) ++ BitVec.ofBool z' ++ BitVec.ofBool h' ↔ z = z' ∧ h = h' := by decide
  exact hall _ _ _ _

theorem atZero_iff {s : State} : s.atZero = true ↔ s.cgCnt = 0 := beq_iff_eq

theorem atHalf_iff {s : State} : s.atHalf = true ↔ s.cgCnt = s.cfg.divisor / 2 := beq_iff_eq

/-- Settles O9: `z` is 1, and the arm writes the four registers. -/
theorem clockFallReloadWritesItsRegisters : Obligations.ClockFallReloadWritesItsRegisters := by
  intro s h
  obtain ⟨hzero, -⟩ := (cgSelect_eq_iff true false).mp h
  exact ⟨atZero_iff.mp hzero, rfl⟩

/-- Settles O10: `h` is 1, so the counter the arm takes 1 from is the half period. -/
theorem clockRiseWritesItsRegisters : Obligations.ClockRiseWritesItsRegisters := by
  intro s h
  obtain ⟨-, hhalf⟩ := (cgSelect_eq_iff false true).mp h
  have hcount := atHalf_iff.mp hhalf
  refine ⟨hcount, ?_⟩
  rw [← hcount]
  rfl

/-- Settles O11: `z` is 0, so the counter has a predecessor. -/
theorem clockCountDecrements : Obligations.ClockCountDecrements := by
  intro s h
  obtain ⟨hzero, -⟩ := (cgSelect_eq_iff false false).mp h
  have hpos : s.cgCnt ≠ 0 := by simpa [State.atZero] using hzero
  obtain ⟨k, hk⟩ := Nat.exists_eq_succ_of_ne_zero hpos
  obtain rfl : s.cgCnt - 1 = k := by omega
  exact ⟨s.cgCnt - 1, hk, rfl⟩

end Sys2Proof.Machine
end

section
/-! The arms of the Sampling State Machine (`42_sampling_fsm.md` rules R79 to R83), read at their select values. -/

namespace Sys2Proof.Machine

variable {s : State}

/-- Rule R53 read back through a row's mask: the code stands in bits 3 and 2, `stb_r` and `stb_f` in the two below. -/
theorem smpSelect_and_eq_iff (code : StateCode) (riseMask fallMask stbR stbF : Bool) :
    s.smpSelect &&& ((0 : BitVec 4) ++ (0b11 : BitVec 2) ++ BitVec.ofBool riseMask ++ BitVec.ofBool fallMask) =
        (0 : BitVec 4) ++ code ++ BitVec.ofBool stbR ++ BitVec.ofBool stbF ↔
      s.smpState = code ∧ (s.stbR && riseMask) = stbR ∧ (s.stbF && fallMask) = stbF := by
  have hones : s.smpState &&& 0b11 = s.smpState := BitVec.and_allOnes
  refine (append_and_append_eq_iff (m := 4 + 2 + 1) (n := 1)).trans ?_
  rw [append_and_append_eq_iff, append_and_append_eq_iff, hones]
  simp [BitVec.ofBool_eq_iff_eq, and_assoc]

/-- Settles O13 by the arm's definition. -/
theorem reportLatchesTheWord : Obligations.ReportLatchesTheWord := fun _ _ => rfl

/-- Settles O14: the select value fixes the state code and `stb_r`, and the arm writes the code it finds. -/
theorem holdRiseRemains : Obligations.HoldRiseRemains := by
  intro s h
  obtain ⟨hcode, hstb, -⟩ := (smpSelect_and_eq_iff 0b01 true false false false).mp h
  exact ⟨hcode, by rwa [Bool.and_true] at hstb, rfl⟩

/-- Settles O15 by the arm's definition. -/
theorem captureRiseTakesTheSynchronizedInput : Obligations.CaptureRiseTakesTheSynchronizedInput := fun _ _ => rfl

/-- Settles O16: the select value fixes the state code and `stb_f`, and the arm writes the code it finds. -/
theorem holdFallRemains : Obligations.HoldFallRemains := by
  intro s h
  obtain ⟨hcode, -, hstb⟩ := (smpSelect_and_eq_iff 0b10 false true false false).mp h
  exact ⟨hcode, by rwa [Bool.and_true] at hstb, rfl⟩

/-- The cycle counter counts modulo `2^W`, and `W` is at most 6 (rules R25, R83). -/
theorem toNat_nextCount {c : Config} (h : c.channels ≤ 3) (k : SampleWord) :
    (nextCount c k).toNat = (k.toNat + 1) % 2 ^ wordWidth c := by
  have hW : 2 ^ wordWidth c ≤ 2 ^ 6 := Nat.pow_le_pow_right two_pos (by unfold wordWidth; omega)
  have hlt := Nat.mod_lt (k.toNat + 1) (Nat.two_pow_pos (wordWidth c))
  rw [nextCount, BitVec.toNat_ofNat, Nat.mod_eq_of_lt (hlt.trans_le hW)]

/-- Settles O17 with the counter's next value. -/
theorem captureFallTakesTheInputAndCounts : Obligations.CaptureFallTakesTheInputAndCounts :=
  fun s _ => ⟨nextCount s.cfg s.cycCnt, fun h => toNat_nextCount h s.cycCnt, rfl⟩

/-- Settles O18 by the two rows' meaning. -/
theorem unreachableRowsFault : Obligations.UnreachableRowsFault := fun _ => ⟨rfl, rfl⟩

end Sys2Proof.Machine
end

section
/-! The rows that write the queue (`43_fifo_streamer.md` rules R92 and R95, `30_encoding.md` section 4; log entry 8). -/

namespace Sys2Proof.Machine

variable {s : State}

/-- `STR_WRITE_DATA` with room and a slot: the word's byte at the tail, and on to `WAIT` (rule R92). -/
theorem exec_strWriteData (hroom : s.room = true) (hslot : s.hasSlot = true) :
    exec .strWriteData s = .next ((s.setQueue (s.queue ++ [dataByte s.word])).setStreamer strWait) := by
  change andThen (fifoWrite (dataByte s.word) s) (fun t => .next (t.setStreamer strWait)) = _
  rw [fifoWrite_of_room hroom hslot, andThen_next]

/-- A new word in `IDLE` puts its byte on the write port (rule R92). -/
theorem State.din_of_writesData (h : s.writesData = true) : s.din = dataByte s.word := by
  simp [State.din, h]

/-- No byte of a sample word is the sentinel (rule R100). -/
theorem dataByte_ne_sentinelByte (w : SampleWord) : dataByte w ≠ sentinelByte := by
  intro h
  have htop : (dataByte w).getLsbD 7 = false := by
    rw [getLsbD_dataByte]
    exact BitVec.getLsbD_of_ge w 7 (by decide)
  rw [h] at htop
  cases htop

/-- Settles O21: a new word in `IDLE` with room and a slot, by the equation of the arm. -/
theorem writeDataAppendsTheWord : Obligations.WriteDataAppendsTheWord := by
  intro s h hfree
  have hmasked : s.strSelect &&& 0xF = 0x3 := by rw [h]; rfl
  obtain ⟨hcode, hstb, hroom⟩ := (strSelect_and_eq_iff 0b00 true true true true).mp hmasked
  rw [Bool.and_true] at hstb hroom
  have hwrites : s.writesData = true := by simp [State.writesData, hcode, hstb, hroom]
  have hdin := State.din_of_writesData hwrites
  refine ⟨by simp [State.we, hwrites], hdin, ?_, exec_strWriteData hroom (hasSlot_iff.mpr hfree)⟩
  rw [hdin]
  exact dataByte_ne_sentinelByte s.word

/-- A zero-extended operand is the operand after zero bits (rule R56). -/
theorem zero_append_eq_setWidth : (∀ d : BitVec 6, (0b00 : BitVec 2) ++ d = d.setWidth 8) ∧
    (∀ d : BitVec 4, (0b0000 : BitVec 4) ++ d = d.setWidth 8) ∧
    (∀ d : BitVec 2, (0b000000 : BitVec 6) ++ d = d.setWidth 8) := by decide

/-- Settles O25: in its own build a DATA row is the write primitive, which has room and a slot. -/
theorem dataRowsAppendTheirByte : Obligations.DataRowsAppendTheirByte := by
  intro s hroom hfree
  obtain ⟨h3, h2, h1⟩ := zero_append_eq_setWidth
  have hwrite : ∀ n b, s.cfg.channels = n → writeDataByte n b s = .next (s.setQueue (s.queue ++ [b])) :=
    fun n b hn => writeDataByte_eq_next_iff.mpr ⟨hn, fifoWrite_of_room hroom (hasSlot_iff.mpr hfree)⟩
  refine ⟨fun hn d => ?_, fun hn d => ?_, fun hn d => ?_⟩
  · rw [h3]; exact hwrite 3 _ hn
  · rw [h2]; exact hwrite 2 _ hn
  · rw [h1]; exact hwrite 1 _ hn

/-- Settles O26: the sentinel row is the write primitive; a DATA byte's bit 7 is above its operand. -/
theorem sentinelAppendsAndNoDataByteIsIt : Obligations.SentinelAppendsAndNoDataByteIsIt := by
  refine ⟨fun s hroom hfree => fifoWrite_of_room hroom (hasSlot_iff.mpr hfree), fun i hf hne => ?_⟩
  have htop : (encode i).getLsbD 7 = false := by
    cases i with
    | dataN3 d | dataN2 d | dataN1 d => simp [encode]
    | sentinel => exact (hne rfl).elim
    | _ => cases hf
  refine ⟨htop, fun h => ?_⟩
  rw [h] at htop
  cases htop

/-- Every row that writes the queue is the write primitive and what follows it (log entries 8, 19). -/
theorem exists_exec_eq_fifoWrite {i : Instr} (hi : i = .strWriteData ∨ i = .strWriteSentinel ∨
    (i.format = .streamByte ∧ i.wellFormed s.cfg.channels = true)) :
    ∃ b k, exec i s = andThen (fifoWrite b s) k := by
  obtain rfl | rfl | ⟨hf, hbuild⟩ := hi
  · exact ⟨_, _, rfl⟩
  · exact ⟨_, _, rfl⟩
  have hwrite : ∀ b, ∃ b' k, fifoWrite b s = andThen (fifoWrite b' s) k :=
    fun b => ⟨b, .next, by cases fifoWrite b s <;> rfl⟩
  have hdata : ∀ n b, s.cfg.channels = n → ∃ b' k, writeDataByte n b s = andThen (fifoWrite b' s) k := by
    intro n b hn
    simpa [writeDataByte, hn] using hwrite b
  cases i with
  | dataN3 d | dataN2 d | dataN1 d => exact hdata _ _ (beq_iff_eq.mp hbuild)
  | sentinel => exact hwrite sentinelByte
  | _ => cases hf

/-- Settles O27: each of the rows begins with the write primitive, whose fault stops it. -/
theorem writesWithoutRoomFault : Obligations.WritesWithoutRoomFault := by
  intro s i hi
  obtain ⟨b, k, hexec⟩ := exists_exec_eq_fifoWrite hi
  rw [hexec]
  refine ⟨fun hroom => ?_, fun hroom hfull => ?_⟩
  · rw [fifoWrite_without_room hroom, andThen_fault]
  · have hslot : s.hasSlot = false := by simpa [State.hasSlot] using hfull
    rw [fifoWrite_full hroom hslot, andThen_fault]

/-- Settles O28: the word's byte fits in the build's bits, so it is a DATA row, which is the write primitive. -/
theorem writeDataIsADataRowThenWait : Obligations.WriteDataIsADataRowThenWait := by
  intro s hword h1 h3
  rw [← toNat_dataByte] at hword
  obtain ⟨i, hdecode, hne, hexec⟩ := exists_dataRow ⟨h1, h3⟩ hword
  refine ⟨i, hdecode, hne, ?_⟩
  rw [hexec s rfl]
  rfl

/-- Settles O29: an arm writes its own machine's registers only, format by format. -/
theorem eachRegisterHasOneWriter : Obligations.EachRegisterHasOneWriter := by
  intro i s t h
  have hwrites := exec_writesOnly h
  cases hf : i.format <;> rw [hf] at hwrites
  case cgSelect => obtain ⟨_, _, _, _, rfl⟩ := hwrites; simp
  case syncSelect => obtain ⟨_, _, rfl⟩ := hwrites; simp
  case smpSelect => obtain ⟨_, _, _, _, _, _, _, rfl⟩ := hwrites; simp
  case strSelect => obtain ⟨_, _, rfl⟩ := hwrites; simp
  case streamByte => obtain ⟨_, rfl⟩ := hwrites; simp

end Sys2Proof.Machine
end

section
/-! What the arms a cycle chooses write, register by register (`00_scope.md` rule R8): the four machines' parts of the
parallel next state. -/

namespace Sys2Proof.Machine

variable {s : State}

/-- A state code is one of the three of its machine or the unreachable one (rules R49, R50). -/
theorem stateCode_cases (code : StateCode) : code = 0b00 ∨ code = 0b01 ∨ code = 0b10 ∨ code = codeUnreachable := by
  revert code
  decide

theorem State.setStreamer_of_eq {code : StateCode} (h : s.strState = code) : s.setStreamer code = s := by
  rw [← h]
  rfl

theorem State.setQueue_self (s : State) : s.setQueue s.queue = s := rfl

/-- A hold in the state of its code writes that code and no strobe (rules R80, R82). -/
theorem exec_smpHold {code : StateCode} (h : s.smpState = code) :
    exec .smpHoldRise s = .next (s.setSampling code false) ∧
      exec .smpHoldFall s = .next (s.setSampling code false) := by
  rw [← h]
  exact ⟨rfl, rfl⟩

/-- Write the Clock Generator's registers of `s`'s parallel next state to `u` (rules R63 to R66). -/
def State.clockInto (s u : State) : State :=
  u.setClock (if s.cgCnt = 0 then s.cfg.divisor - 1 else s.cgCnt - 1)
    (if s.cgCnt = 0 then false else if s.cgCnt = s.cfg.divisor / 2 then true else s.bclk)
    (decide (s.cgCnt = s.cfg.divisor / 2)) (decide (s.cgCnt = 0))

/-- Write the Sampling State Machine's registers of `s`'s parallel next state to `u` (rules R79 to R84). -/
def State.sampleInto (s u : State) : State :=
  (((u.setHalves (if s.capturesRise then s.sync2 else s.rise) (if s.capturesFall then s.sync2 else s.fall)).setWord
    (if s.smpState = smpReport then interleave s.cfg.channels s.rise s.fall else s.word)).setCounts
    (if s.capturesFall then nextCount s.cfg s.cycCnt else s.cycCnt)
    (if s.smpState = smpReport then s.cycCnt else s.cycCntPrev)).setSampling
    s.nextSampling (decide (s.smpState = smpReport))

/-- The Streamer's state of the parallel next state, and the queue with the written byte (rules R35, R90 to R96). -/
def State.streamed (s : State) : State :=
  (s.setQueue (s.queue ++ if s.we then [s.din] else [])).setStreamer s.nextStreamer

/-- Run last, the Clock Generator's chosen arm writes its part of the parallel next state: the arms before it keep what
it reads. -/
theorem exec_clockArm {u : State} (h : s.cfg.legal = true) (hcfg : u.cfg = s.cfg) (hcnt : u.cgCnt = s.cgCnt)
    (hbclk : u.bclk = s.bclk) : exec (clockArm s.atZero s.atHalf) u = .next (s.clockInto u) := by
  have hreload : exec .cgFallReload u = .next (u.setClock (s.cfg.divisor - 1) false false true) := by rw [← hcfg]; rfl
  have hrise : exec .cgRise u = .next (u.setClock (s.cgCnt - 1) true true false) := by rw [← hcnt]; rfl
  have hcount : exec .cgCount u = .next (u.setClock (s.cgCnt - 1) s.bclk false false) := by rw [← hcnt, ← hbclk]; rfl
  have hnot := not_atZero_and_atHalf h
  simp only [State.clockInto, ← atZero_iff, ← atHalf_iff]
  cases hzero : s.atZero <;> cases hhalf : s.atHalf
  case true.true => exact (hnot ⟨hzero, hhalf⟩).elim
  case true.false => exact hreload
  case false.true => exact hrise
  case false.false => exact hcount

/-- Run after the Streamer's, the Sampling State Machine's chosen arm writes its part of the parallel next state. -/
theorem exec_samplingArm (h : s.smpState ≠ codeUnreachable) (q : List Byte) (code : StateCode) :
    exec (samplingArm s.smpState s.stbR s.stbF) ((s.setQueue q).setStreamer code) =
      .next (s.sampleInto ((s.setQueue q).setStreamer code)) := by
  unfold State.sampleInto State.capturesRise State.capturesFall State.nextSampling
  obtain hcode | hcode | hcode | hcode := stateCode_cases s.smpState
  · rw [hcode]; rfl
  · obtain ⟨hhold, -⟩ := exec_smpHold (s := (s.setQueue q).setStreamer code) hcode
    rw [hcode]
    cases s.stbR
    · exact hhold
    · rfl
  · obtain ⟨-, hhold⟩ := exec_smpHold (s := (s.setQueue q).setStreamer code) hcode
    rw [hcode]
    cases s.stbF
    · exact hhold
    · rfl
  · exact (h hcode).elim

/-- The Streamer's chosen arm, with a slot where there is room, writes its part of the parallel next state. -/
theorem exec_streamerArm (h : s.strState ≠ codeUnreachable) (hslot : s.room = true → s.hasSlot = true) :
    exec (streamerArm s.strState s.wordStb s.room) s = .next s.streamed := by
  have hkeep : ∀ code, s.we = false → s.nextStreamer = code →
      s.streamed = s.setStreamer code := by
    intro code hwe hnext
    simp [State.streamed, hwe, hnext, State.setQueue_self]
  obtain hcode | hcode | hcode | hcode := stateCode_cases s.strState
  · cases hstb : s.wordStb
    · rw [hkeep strIdle (by simp [State.we_eq, hcode, hstb]) (by simp [State.nextStreamer, hcode, hstb]),
        State.setStreamer_of_eq hcode, hcode]
      rfl
    · cases hroom : s.room
      · rw [hkeep strReportOverrun (by simp [State.we_eq, hroom])
          (by simp [State.nextStreamer, hcode, hstb, hroom]), hcode]
        rfl
      · have hwrites : s.writesData = true := by simp [State.writesData, hcode, hstb, hroom]
        have hnext : s.nextStreamer = strWait := by simp [State.nextStreamer, hcode, hstb, hroom]
        simp [State.streamed, hnext, State.we, hwrites, State.din_of_writesData, hcode, streamerArm,
          exec_strWriteData hroom (hslot hroom)]
  · cases hroom : s.room
    · rw [hkeep strReportOverrun (by simp [State.we_eq, hroom]) (by simp [State.nextStreamer, hcode, hroom]),
        State.setStreamer_of_eq hcode, hcode]
      rfl
    · have hwe : s.we = true := by simp [State.we_eq, hcode, hroom]
      have hnext : s.nextStreamer = strIdle := by simp [State.nextStreamer, hcode, hroom]
      simp [State.streamed, hnext, hwe, State.din_of_reportOverrun hcode hroom, hcode, streamerArm,
        exec_strWriteSentinel hroom (hslot hroom)]
  · rw [hkeep strIdle (by simp [State.we_eq, hcode]) (by simp [State.nextStreamer, hcode]), hcode]
    rfl
  · exact (h hcode).elim

end Sys2Proof.Machine
end

section
/-! One cycle as a whole (`00_scope.md` rule R8): the step is the parallel next state, faults in the two unreachable
codes, and is refused for an illegal configuration or an input no environment presents. -/

namespace Sys2Proof.Machine

variable {s t : State}

/-- Rule R38: an input that is admitted has room only with a free slot. -/
theorem hasSlot_of_room (h : s.roomAdmissible s.room = true) (hroom : s.room = true) : s.hasSlot = true := by
  unfold State.roomAdmissible at h
  rw [hroom] at h
  split at h <;> simpa using h

theorem step_of_admitted {a : Arms} (hlegal : s.cfg.legal = true) (hinput : s.inputProblem = none)
    (harms : s.arms = some a) :
    step s = andThen (runArms a s) fun u => .next (environment s.input.drain s.hostEvents u) := by
  simp [step, State.runCycle, hlegal, hinput, harms]

theorem step_of_illegal (h : s.cfg.legal = false) : step s = .refused .illegalConfiguration := by
  simp [step, State.runCycle, h]

theorem step_of_inputProblem {e : Refusal} (hlegal : s.cfg.legal = true) (hinput : s.inputProblem = some e) :
    step s = .refused e := by
  simp [step, State.runCycle, hlegal, hinput]

/-- The four machines' parts, one after the other, and the environment's part are the parallel next state: the removed
bytes are none of the written (rule R36). -/
theorem parallelNext_eq (h : s.input.drain ≤ s.queue.length) : s.parallelNext = environment s.input.drain s.hostEvents
    (s.clockInto ((s.sampleInto s.streamed).setSync s.pins s.sync1)) := by
  have hqueue := drop_append_of_le (a := if s.we then [s.din] else []) h
  have htaken := List.take_append_of_le_length (l₂ := if s.we then [s.din] else []) h
  simp only [State.parallelNext, ← hqueue, ← htaken, environment, State.clockInto, State.sampleInto, State.streamed,
    State.setQueue, State.setStreamer, State.setHalves, State.setWord, State.setCounts, State.setSampling,
    State.setSync, State.setClock, State.setHost, State.nextInput]

/-- A cycle of a legal configuration with an admitted input and no unreachable code: the four chosen arms write the
parallel next state. -/
theorem step_of_codes (hlegal : s.cfg.legal = true) (hinput : s.inputProblem = none)
    (hsampling : s.smpState ≠ codeUnreachable) (hstreamer : s.strState ≠ codeUnreachable) :
    step s = .next s.parallelNext := by
  obtain ⟨-, hroom, hdrain, -⟩ := inputProblem_eq_none_iff.mp hinput
  have hsmp : exec (samplingArm s.smpState s.stbR s.stbF) s.streamed = .next (s.sampleInto s.streamed) :=
    exec_samplingArm hsampling _ _
  have hsync : exec .syncShift (s.sampleInto s.streamed) =
      .next ((s.sampleInto s.streamed).setSync s.pins s.sync1) := by
    simp [exec_syncShift, State.sampleInto, State.streamed]
  have hclock := exec_clockArm (u := (s.sampleInto s.streamed).setSync s.pins s.sync1) hlegal
    (by simp [State.sampleInto, State.streamed]) (by simp [State.sampleInto, State.streamed])
    (by simp [State.sampleInto, State.streamed])
  rw [step_of_admitted hlegal hinput (arms_of_legal hlegal), runArms, State.chosenArms, parallelNext_eq hdrain]
  simp only [exec_streamerArm hstreamer (hasSlot_of_room hroom), hsmp, hsync, hclock, andThen_next]

/-- The Streamer's unreachable code stops the cycle before any other arm (rule R113 b; log entry 11). -/
theorem step_of_strState_unreachable (hlegal : s.cfg.legal = true) (hinput : s.inputProblem = none)
    (h : s.strState = codeUnreachable) : step s = .fault .strStateUnreachable := by
  rw [step_of_admitted hlegal hinput (arms_of_legal hlegal), runArms, State.chosenArms, h]
  rfl

/-- The Sampling State Machine's unreachable code stops a cycle whose Streamer arm goes on (rule R113 a). -/
theorem step_of_smpState_unreachable (hlegal : s.cfg.legal = true) (hinput : s.inputProblem = none)
    (hstreamer : s.strState ≠ codeUnreachable) (h : s.smpState = codeUnreachable) :
    step s = .fault .smpStateUnreachable := by
  obtain ⟨-, hroom, -, -⟩ := inputProblem_eq_none_iff.mp hinput
  rw [step_of_admitted hlegal hinput (arms_of_legal hlegal), runArms, State.chosenArms,
    exec_streamerArm hstreamer (hasSlot_of_room hroom), h]
  rfl

/-- A step that goes on is the parallel next state of a legal configuration with an admitted input and no unreachable
code. -/
theorem step_eq_next_iff_parallelNext : step s = .next t ↔ s.cfg.legal = true ∧ s.inputProblem = none ∧
    s.smpState ≠ codeUnreachable ∧ s.strState ≠ codeUnreachable ∧ t = s.parallelNext := by
  constructor
  · intro h
    obtain ⟨hlegal, hinput, -⟩ := step_eq_next_iff.mp h
    have hstr : s.strState ≠ codeUnreachable := by
      intro hcode
      rw [step_of_strState_unreachable hlegal hinput hcode] at h
      cases h
    have hsmp : s.smpState ≠ codeUnreachable := by
      intro hcode
      rw [step_of_smpState_unreachable hlegal hinput hstr hcode] at h
      cases h
    rw [step_of_codes hlegal hinput hsmp hstr] at h
    cases h
    exact ⟨hlegal, hinput, hsmp, hstr, rfl⟩
  · rintro ⟨hlegal, hinput, hsmp, hstr, rfl⟩
    exact step_of_codes hlegal hinput hsmp hstr

/-- The next state of a step that goes on. -/
theorem eq_parallelNext_of_step (h : step s = .next t) : t = s.parallelNext := by
  obtain ⟨-, -, -, -, rfl⟩ := step_eq_next_iff_parallelNext.mp h
  rfl

/-- Settles O30: the four decoded arms are the cycle's arms. -/
theorem stepRunsTheDecodedArms : Obligations.StepRunsTheDecodedArms := by
  intro s c y m r hlegal hinput hc hy hm hr
  rw [decode_syncSelect] at hy
  cases hy
  have harms : s.arms = some ⟨c, .syncShift, m, r⟩ := arms_eq_some_iff.mpr ⟨hc, rfl, hm, hr⟩
  rw [step_of_admitted hlegal hinput harms, runArms]
  simp only [andThen_assoc]

/-- Settles O31 by `step_of_codes`. -/
theorem stepComputesTheNextStateAtOnce : Obligations.StepComputesTheNextStateAtOnce :=
  fun _ hlegal hinput hsmp hstr => step_of_codes hlegal hinput hsmp hstr

/-- Settles O39: each unreachable code has its fault, and without one the step goes on. -/
theorem stepFaultsExactlyAtUnreachableCodes : Obligations.StepFaultsExactlyAtUnreachableCodes := by
  intro s f hlegal hinput
  by_cases hstr : s.strState = 0b11
  · rw [step_of_strState_unreachable hlegal hinput hstr]
    simp [hstr, eq_comm]
  · by_cases hsmp : s.smpState = 0b11
    · rw [step_of_smpState_unreachable hlegal hinput hstr hsmp]
      simp only [hstr, hsmp, ne_eq, not_false_eq_true, false_and, true_and, false_or, Host.Outcome.fault.injEq]
      exact eq_comm
    · rw [step_of_codes hlegal hinput hsmp hstr]
      simp_all

/-- Settles O37: the invariant rules out an illegal configuration and both unreachable codes. -/
theorem stepGoesOnUnderTheInvariant : Obligations.StepGoesOnUnderTheInvariant :=
  fun _ hinv hinput => ⟨_, step_of_codes hinv.legal hinput hinv.sampling hinv.streamer⟩

/-- Settles O32: the legal values are what `legal_iff` says, and both the build and the cycle check them first. -/
theorem illegalConfigurationIsRefused : Obligations.IllegalConfigurationIsRefused := by
  intro c h
  have hillegal : c.legal = false := by
    rw [Bool.eq_false_iff, ne_eq, legal_iff]
    rintro ⟨hn, hrest⟩
    exact h ⟨by omega, hrest⟩
  refine ⟨by simp [build, hillegal], ?_⟩
  rintro s rfl
  exact step_of_illegal hillegal

/-- Settles O33 by the reset state's definition. -/
theorem buildGivesTheResetState : Obligations.BuildGivesTheResetState := by
  intro c h
  exact ⟨State.resetWith c, if_pos h, rfl, rfl, rfl, rfl, rfl, rfl, rfl, rfl, rfl, rfl, rfl, rfl, rfl, rfl, rfl, rfl⟩

/-- Settles O34: the parallel next state of a reset state that has inputs. -/
theorem firstWordAfterResetIsZero : Obligations.FirstWordAfterResetIsZero := by
  intro c xs t h
  obtain rfl := eq_parallelNext_of_step h
  have hword : interleave c.channels 0 0 = 0 := by simp [interleave, laneBit]
  exact ⟨rfl, hword, rfl, rfl, rfl, by simp [State.parallelNext, State.resetWith, State.we_eq]⟩

end Sys2Proof.Machine
end

section
/-! What a step keeps (`10_state.md` rule R31), and what it does to the word, the queue and the transport. -/

namespace Sys2Proof.Machine

variable {s t : State}

theorem nextSampling_ne_unreachable (s : State) : s.nextSampling ≠ codeUnreachable := by
  unfold State.nextSampling
  split_ifs <;> decide

theorem nextStreamer_ne_unreachable (s : State) : s.nextStreamer ≠ codeUnreachable := by
  unfold State.nextStreamer
  split_ifs <;> decide

/-- The write port is enabled in a cycle with room only (rules R92, R95). -/
theorem room_of_we (h : s.we = true) : s.room = true := by
  rw [State.we_eq, Bool.and_eq_true] at h
  exact h.2

/-- An admitted write has room and a free slot (rules R35, R38). -/
theorem free_slot_of_we (hinput : s.inputProblem = none) (h : s.we = true) :
    s.room = true ∧ s.queue.length < s.cfg.capacity := by
  obtain ⟨-, hroom, -, -⟩ := inputProblem_eq_none_iff.mp hinput
  exact ⟨room_of_we h, hasSlot_iff.mp (hasSlot_of_room hroom (room_of_we h))⟩

/-- The queue of an admitted cycle stays within its capacity (rule R31, 6). -/
theorem parallelNext_queue_length_le (hinput : s.inputProblem = none) (h : s.queue.length ≤ s.cfg.capacity) :
    s.parallelNext.queue.length ≤ s.cfg.capacity := by
  have hlength : s.parallelNext.queue.length =
      s.queue.length - s.input.drain + (if s.we then [s.din] else []).length := by
    simp [State.parallelNext]
  rw [hlength]
  split
  next hwe =>
    obtain ⟨-, hslot⟩ := free_slot_of_we hinput hwe
    simp only [List.length_singleton]
    omega
  next =>
    simp only [List.length_nil]
    omega

/-- Settles O36: every register of the parallel next state is within its bound. -/
theorem everyStepKeepsTheInvariant : Obligations.EveryStepKeepsTheInvariant := by
  intro s t hinv h
  obtain ⟨hlegal, hinput, -, -, rfl⟩ := step_eq_next_iff_parallelNext.mp h
  obtain ⟨⟨-, hN⟩, -⟩ := legal_iff.mp hlegal
  obtain ⟨hhalfPos, hhalfLt⟩ := halfPeriod_bounds hlegal
  obtain ⟨hsync1, hsync2, hrise, hfall⟩ := hinv.lanes
  obtain ⟨hcyc, hprev⟩ := hinv.counts
  have hcount := hinv.count
  unfold halfPeriod at hhalfPos hhalfLt
  constructor
  case legal => exact hlegal
  case count =>
    simp only [State.parallelNext]
    split <;> omega
  case strobes =>
    simp only [State.parallelNext, decide_eq_true_eq]
    omega
  case sampling => exact nextSampling_ne_unreachable s
  case streamer => exact nextStreamer_ne_unreachable s
  case lanes =>
    refine ⟨narrow_lt _ hN _, hsync1, ?_, ?_⟩ <;> simp only [State.parallelNext] <;> split <;> assumption
  case word =>
    simp only [State.parallelNext]
    split
    · exact interleave_lt _ hN _ _
    · exact hinv.word
  case counts =>
    refine ⟨?_, ?_⟩ <;> simp only [State.parallelNext] <;> split
    · rw [toNat_nextCount hN]
      exact Nat.mod_lt _ (Nat.two_pow_pos _)
    all_goals assumption
  case strobe =>
    simp only [State.parallelNext, decide_eq_true_eq]
    intro hreport
    simp [State.nextSampling, hreport]
  case queue => exact parallelNext_queue_length_le hinput hinv.queue

/-- The Streamer enters `WAIT` from a word strobe only (rule R92). -/
theorem wordStb_of_nextStreamer_eq_wait (h : s.nextStreamer = strWait) : s.wordStb = true := by
  cases hstb : s.wordStb with
  | true => rfl
  | false =>
    have hne : s.nextStreamer ≠ strWait := by
      simp only [State.nextStreamer, hstb, Bool.false_eq_true, if_false]
      split_ifs <;> decide
    exact (hne h).elim

/-- Settles O43: the Streamer enters `WAIT` from a strobe, which meets the Sampling State Machine outside `REPORT`. -/
theorem noStrobeReachesTheCooldown : Obligations.NoStrobeReachesTheCooldown := by
  intro s t hinv _ h
  obtain rfl := eq_parallelNext_of_step h
  intro hwait
  have hcode := hinv.strobe (wordStb_of_nextStreamer_eq_wait hwait)
  simp [State.parallelNext, hcode]

/-- Settles O44: both registers of the parallel next state are decided by the `REPORT` code. -/
theorem wordStrobeFollowsReport : Obligations.WordStrobeFollowsReport := by
  intro s t h
  obtain rfl := eq_parallelNext_of_step h
  simp only [State.parallelNext, decide_eq_true_eq, decide_eq_false_iff_not]
  exact ⟨trivial, fun hreport => if_pos hreport, fun hreport => if_neg hreport⟩

/-- Settles O45: a step shifts the synchronizer. -/
theorem synchronizerDelaysByTwoCycles : Obligations.SynchronizerDelaysByTwoCycles := by
  intro s t u hst htu
  obtain ⟨hpins, hsync⟩ := step_shifts_sync hst
  obtain ⟨-, hdelayed⟩ := step_shifts_sync htu
  exact ⟨hdelayed.trans hpins, hsync⟩

/-- Settles O46: the queue, the host and the bytes in flight of the parallel next state, the bound on the removal from
the admitted input, and the transport's split. -/
theorem queueTakesTheWrittenByte : Obligations.QueueTakesTheWrittenByte := by
  intro s t h
  obtain ⟨-, hinput, -, -, rfl⟩ := step_eq_next_iff_parallelNext.mp h
  obtain ⟨-, -, hdrain, -⟩ := inputProblem_eq_none_iff.mp hinput
  exact ⟨hdrain, rfl, free_slot_of_we hinput, rfl, rfl, delivered_append_rest _ _ _ _⟩

/-- Settles O51: no register named by `SamplesAlike` takes its next value from the Streamer, the queue or the host. -/
theorem samplingIgnoresTheStreamer : Obligations.SamplingIgnoresTheStreamer := by
  intro s t u v halike hpins hst huv
  obtain rfl := eq_parallelNext_of_step hst
  obtain rfl := eq_parallelNext_of_step huv
  obtain ⟨hcfg, ⟨hcnt, hbclk, hstbR, hstbF⟩, ⟨hsync1, hsync2⟩, ⟨hcode, hstb⟩, ⟨hrise, hfall⟩, hword, hcyc, hprev⟩ :=
    halike
  constructor <;>
  simp [State.parallelNext, State.nextSampling, State.capturesRise, State.capturesFall, *]

end Sys2Proof.Machine
end

section
/-! The Clock Generator's closed form (`40_clock_generator.md` rule R67; decision D3): the counter goes down with the
cycle number modulo the divisor. -/

namespace Sys2Proof.Machine

variable {s t : State}

/-- The closed form of the counter without integers: counter and cycle number modulo the divisor add up to `D - 1`. -/
theorem count_closed_form_iff {d : Nat} (hd : 0 < d) (count cycle : Nat) :
    (count : Int) = ((d : Int) - 1 - (cycle : Int)) % (d : Int) ↔ count + cycle % d + 1 = d := by
  have hlt := Nat.mod_lt cycle hd
  have hrest : ((d : Int) - 1 - cycle) % d = (d : Int) - 1 - (cycle % d : Nat) := by
    rw [← Int.sub_emod_emod, ← Int.natCast_mod]
    exact Int.emod_eq_of_lt (by omega) (by omega)
  rw [hrest]
  omega

/-- The cycle number modulo the divisor, one cycle on. -/
theorem succ_mod_eq {d : Nat} (hd : 0 < d) (t : Nat) : (t + 1) % d = if t % d + 1 = d then 0 else t % d + 1 := by
  have hlt := Nat.mod_lt t hd
  rw [← Nat.mod_add_mod]
  split
  next h => rw [h, Nat.mod_self]
  next h => exact Nat.mod_eq_of_lt (by omega)

theorem eq_decide_iff {b : Bool} {p : Prop} [Decidable p] : b = decide p ↔ (b = true ↔ p) := by
  rw [Bool.eq_iff_iff, decide_eq_true_iff]

/-- Rule R67 as equations and equivalences between the registers and the cycle number modulo the divisor. -/
theorem clockPhase_iff (h : 0 < s.cfg.divisor) : s.ClockPhase ↔
    s.cgCnt + s.cycle % s.cfg.divisor + 1 = s.cfg.divisor ∧
    (s.bclk = true ↔ s.cfg.divisor - s.cfg.divisor / 2 ≤ s.cycle % s.cfg.divisor) ∧
    (s.stbR = true ↔ s.cycle % s.cfg.divisor = s.cfg.divisor - s.cfg.divisor / 2) ∧
    (s.stbF = true ↔ s.cycle % s.cfg.divisor = 0 ∧ s.cfg.divisor ≤ s.cycle) := by
  rw [← count_closed_form_iff h, ← eq_decide_iff, ← eq_decide_iff, ← eq_decide_iff]
  exact ⟨fun ⟨hcount, hbclk, hstbR, hstbF⟩ => ⟨hcount, hbclk, hstbR, hstbF⟩,
    fun ⟨hcount, hbclk, hstbR, hstbF⟩ => ⟨hcount, hbclk, hstbR, hstbF⟩⟩

theorem divisor_pos_of_legal (h : s.cfg.legal = true) : 0 < s.cfg.divisor := by
  have hbounds := halfPeriod_bounds h
  omega

/-- Settles O40: with the counter at `D - 1 - t % D`, its compares with 0 and with the half period are compares of the
next cycle number modulo `D` with 0 and with `D - H`. -/
theorem everyStepKeepsTheClockPhase : Obligations.EveryStepKeepsTheClockPhase := by
  intro s t hphase h
  obtain ⟨hlegal, -, -, -, rfl⟩ := step_eq_next_iff_parallelNext.mp h
  obtain ⟨-, hD, -⟩ := legal_iff.mp hlegal
  have hpos := divisor_pos_of_legal hlegal
  obtain ⟨hcount, hbclk, -, -⟩ := (clockPhase_iff hpos).mp hphase
  have hnext := succ_mod_eq hpos s.cycle
  have hle := Nat.mod_le s.cycle s.cfg.divisor
  have hnextBclk : s.parallelNext.bclk = true ↔ s.cgCnt ≠ 0 ∧ (s.cgCnt = s.cfg.divisor / 2 ∨ s.bclk = true) := by
    simp [State.parallelNext]
  refine (clockPhase_iff (s := s.parallelNext) hpos).mpr ?_
  rw [hnextBclk, hbclk]
  simp only [State.parallelNext, decide_eq_true_eq]
  by_cases hlast : s.cycle % s.cfg.divisor + 1 = s.cfg.divisor
  · rw [if_pos hlast] at hnext
    rw [hnext]
    exact ⟨by split <;> omega, by omega, by omega, by omega⟩
  · rw [if_neg hlast] at hnext
    rw [hnext]
    exact ⟨by split <;> omega, by omega, by omega, by omega⟩

end Sys2Proof.Machine
end

section
/-! The sampling loop's timing (`42_sampling_fsm.md` rule R87): the state codes by the cycle number. -/

namespace Sys2Proof.Machine

variable {s t : State}

theorem loopState_eq_report_iff (d t : Nat) : loopState d t = smpReport ↔
    t = 0 ∨ (d = 2 ∧ t % 4 = 3) ∨ (d ≠ 2 ∧ t % d = 1 ∧ t ≠ 1) := by
  unfold loopState
  split_ifs <;> simp <;> omega

theorem loopState_eq_waitFalling_iff (d t : Nat) : loopState d t = smpWaitFalling ↔
    t ≠ 0 ∧ ((d = 2 ∧ t % 4 = 2) ∨ (d ≠ 2 ∧ ¬(t % d = 1 ∧ t ≠ 1) ∧ (t % d = 0 ∨ d - d / 2 < t % d))) := by
  unfold loopState
  split_ifs <;> simp <;> omega

theorem loopState_ne_unreachable (d t : Nat) : loopState d t ≠ codeUnreachable := by
  unfold loopState
  split_ifs <;> decide

theorem loopStrobe_iff (d t : Nat) : loopStrobe d t = true ↔
    t = 1 ∨ (d = 2 ∧ t % 4 = 0 ∧ 4 ≤ t) ∨ (d ≠ 2 ∧ t % d = 2 ∧ d + 2 ≤ t) := by
  unfold loopStrobe
  split_ifs with hd <;> simp [hd]

/-- Reachable codes are told apart by being `REPORT` and by being `WAIT_FALLING_EDGE`. -/
theorem stateCode_eq_of_iff {x y : StateCode} (hx : x ≠ codeUnreachable) (hy : y ≠ codeUnreachable)
    (hreport : x = smpReport ↔ y = smpReport) (hfalling : x = smpWaitFalling ↔ y = smpWaitFalling) : x = y := by
  revert x y
  decide

/-- What follows a reachable code: `REPORT` after a falling capture only (rule R83), `WAIT_FALLING_EDGE` after a rising
capture or a hold (rules R81, R82). -/
theorem nextSampling_iff (h : s.smpState ≠ codeUnreachable) :
    (s.nextSampling = smpReport ↔ s.smpState = smpWaitFalling ∧ s.stbF = true) ∧
    (s.nextSampling = smpWaitFalling ↔
      (s.smpState ≠ smpReport ∧ s.smpState ≠ smpWaitFalling ∧ s.stbR = true) ∨
      (s.smpState = smpWaitFalling ∧ ¬s.stbF = true)) := by
  unfold State.nextSampling
  obtain hcode | hcode | hcode | hcode := stateCode_cases s.smpState
  · simp [hcode]
  · cases hstb : s.stbR <;> simp [hcode]
  · cases hstb : s.stbF <;> simp [hcode]
  · exact (h hcode).elim

/-- In a cycle beyond the first period the cycle number is at least `D` more than its remainder. -/
theorem lt_or_add_mod_le (t d : Nat) : t % d = t ∨ d + t % d ≤ t := by
  rcases lt_or_ge t d with hlt | hge
  · exact .inl (Nat.mod_eq_of_lt hlt)
  · refine .inr ?_
    have hsub := Nat.mod_le (t - d) d
    rw [← Nat.mod_eq_sub_mod hge] at hsub
    omega

/-- The loop reaches `REPORT` from a falling capture, in the cycle of a falling strobe. -/
theorem loopState_succ_eq_report_iff {d : Nat} (hd : 2 ≤ d) (t : Nat) :
    loopState d (t + 1) = smpReport ↔ loopState d t = smpWaitFalling ∧ t % d = 0 ∧ d ≤ t := by
  have hnext := succ_mod_eq (d := d) (by omega) t
  have hperiod := lt_or_add_mod_le t d
  rw [loopState_eq_report_iff, loopState_eq_waitFalling_iff]
  by_cases htwo : d = 2
  · subst htwo
    omega
  · split at hnext <;> omega

/-- The loop is in `WAIT_FALLING_EDGE` after a rising strobe, until the next falling one. -/
theorem loopState_succ_eq_waitFalling_iff {d : Nat} (hd : 2 ≤ d) (t : Nat) :
    loopState d (t + 1) = smpWaitFalling ↔
      (loopState d t ≠ smpReport ∧ loopState d t ≠ smpWaitFalling ∧ t % d = d - d / 2) ∨
      (loopState d t = smpWaitFalling ∧ ¬(t % d = 0 ∧ d ≤ t)) := by
  have hnext := succ_mod_eq (d := d) (by omega) t
  have hperiod := lt_or_add_mod_le t d
  rw [ne_eq, ne_eq, loopState_eq_report_iff, loopState_eq_waitFalling_iff, loopState_eq_waitFalling_iff]
  by_cases htwo : d = 2
  · subst htwo
    omega
  · split at hnext <;> omega

/-- The word strobe follows `REPORT` (rule R84). -/
theorem loopStrobe_succ_iff {d : Nat} (hd : 2 ≤ d) (t : Nat) :
    loopStrobe d (t + 1) = true ↔ loopState d t = smpReport := by
  have hnext := succ_mod_eq (d := d) (by omega) t
  have hperiod := lt_or_add_mod_le t d
  rw [loopStrobe_iff, loopState_eq_report_iff]
  by_cases htwo : d = 2
  · subst htwo
    omega
  · split at hnext <;> omega

/-- Settles O42: the Sampling State Machine goes on as the closed form does, the strobes being compares of the same
cycle number. -/
theorem everyStepKeepsTheLoopPhase : Obligations.EveryStepKeepsTheLoopPhase := by
  intro s t hphase h
  have hclock := everyStepKeepsTheClockPhase s t hphase.clock h
  obtain ⟨hlegal, -, hcode, -, rfl⟩ := step_eq_next_iff_parallelNext.mp h
  obtain ⟨-, hD, -⟩ := legal_iff.mp hlegal
  obtain ⟨-, -, hstbR, hstbF⟩ := (clockPhase_iff (divisor_pos_of_legal hlegal)).mp hphase.clock
  obtain ⟨hreport, hfalling⟩ := nextSampling_iff hcode
  rw [hphase.sampling, hstbF, ← loopState_succ_eq_report_iff hD] at hreport
  rw [hphase.sampling, hstbR, hstbF, ← loopState_succ_eq_waitFalling_iff hD] at hfalling
  refine ⟨hclock, ?sampling, ?strobe⟩
  case sampling =>
    exact stateCode_eq_of_iff (nextSampling_ne_unreachable s) (loopState_ne_unreachable _ _) hreport hfalling
  case strobe =>
    rw [Bool.eq_iff_iff]
    simp only [State.parallelNext, loopStrobe_succ_iff hD, hphase.sampling, decide_eq_true_eq]

end Sys2Proof.Machine
end

section
/-! The reset state (`70_reset_and_hazards.md` rule R128) meets the invariants. -/

namespace Sys2Proof.Machine

variable {c : Config}

theorem resetWith_inv (h : c.legal = true) : (State.resetWith c).Inv := by
  have hpos := divisor_pos_of_legal (s := State.resetWith c) h
  have hzero : ∀ n, 0 < 2 ^ n := Nat.two_pow_pos
  constructor
  case legal => exact h
  case count => exact Nat.sub_lt hpos Nat.one_pos
  case strobes => simp [State.resetWith]
  case sampling => exact (by decide : smpReport ≠ codeUnreachable)
  case streamer => exact (by decide : strIdle ≠ codeUnreachable)
  case lanes => exact ⟨hzero _, hzero _, hzero _, hzero _⟩
  case word => exact hzero _
  case counts => exact ⟨hzero _, hzero _⟩
  case strobe => exact nofun
  case queue => exact Nat.zero_le _

theorem resetWith_clockPhase (h : c.legal = true) : (State.resetWith c).ClockPhase := by
  have hpos := divisor_pos_of_legal (s := State.resetWith c) h
  rw [clockPhase_iff hpos]
  have := legal_iff.mp h
  simp [State.resetWith] at hpos ⊢
  omega

/-- Settles O35: the closed forms at cycle 0, the bounds at 0, and a file just opened. -/
theorem resetMeetsTheInvariants : Obligations.ResetMeetsTheInvariants := by
  intro c h
  refine ⟨resetWith_inv h, fun _ => rfl, ⟨resetWith_clockPhase h, rfl, ?_⟩, .inl ⟨rfl, rfl⟩⟩
  simp [State.resetWith, loopStrobe]

end Sys2Proof.Machine
end

section
/-! Runs: the steps of a run one by one, what a run keeps, and sums over a run. -/

namespace Sys2Proof.Machine

variable {k : Nat} {s t u : State}

theorem run_zero_iff : Host.Core.run Sys2Proof.core 0 s = .next t ↔ s = t := 
  ⟨Host.Outcome.next.inj, congrArg Host.Outcome.next⟩

theorem core_run_succ_iff (M : Host.Core) (k : Nat) (s t : M.State) :
    M.run (k + 1) s = .next t ↔ ∃ u, M.step s = .next u ∧ M.run k u = .next t := by
  rw [Host.Core.run]
  cases M.step s <;> simp

theorem run_succ_iff : Host.Core.run Sys2Proof.core (k + 1) s = .next t ↔
    ∃ u, step s = .next u ∧ Host.Core.run Sys2Proof.core k u = .next t :=
  core_run_succ_iff Sys2Proof.core k s t

/-- What every step keeps a run keeps. -/
theorem run_keeps {I : State → Prop} (hstep : ∀ s t, I s → step s = .next t → I t)
    (h : Host.Core.run Sys2Proof.core k s = .next t) (hs : I s) : I t := by
  induction k generalizing s with
  | zero => exact run_zero_iff.mp h ▸ hs
  | succ k ih =>
    obtain ⟨u, hsu, hut⟩ := run_succ_iff.mp h
    exact ih hut (hstep s u hs hsu)

/-- What holds at every cycle of a run holds at its first, and at every cycle of the rest. -/
theorem forall_run_succ {P : State → Prop} (hsu : step s = .next u)
    (h : ∀ i < k + 1, ∀ v, Host.Core.run Sys2Proof.core i s = .next v → P v) :
    P s ∧ ∀ i < k, ∀ v, Host.Core.run Sys2Proof.core i u = .next v → P v :=
  ⟨h 0 k.succ_pos s (run_zero_iff.mpr rfl),
    fun i hi v hv => h (i + 1) (Nat.succ_lt_succ hi) v (run_succ_iff.mpr ⟨u, hsu, hv⟩)⟩

theorem sumOver_succ (f : State → Nat) (h : step s = .next u) : sumOver f (k + 1) s = f s + sumOver f k u := by
  simp only [sumOver, h]

theorem sumOver_add (f g : State → Nat) (h : Host.Core.run Sys2Proof.core k s = .next t) :
    sumOver (fun u => f u + g u) k s = sumOver f k s + sumOver g k s := by
  induction k generalizing s with
  | zero => rfl
  | succ k ih =>
    obtain ⟨u, hsu, hut⟩ := run_succ_iff.mp h
    rw [sumOver_succ _ hsu, sumOver_succ _ hsu, sumOver_succ _ hsu, ih hut]
    omega

@[simp] theorem countOver_zero (p : State → Bool) : countOver p 0 s = 0 := rfl

theorem countOver_succ (p : State → Bool) (h : step s = .next u) :
    countOver p (k + 1) s = (if p s then 1 else 0) + countOver p k u :=
  sumOver_succ _ h

/-- A quantity that each step changes by what comes in less what goes out changes over a run by their sums. -/
theorem run_balances {level inflow outflow : State → Nat}
    (hstep : ∀ s t, step s = .next t → level t + outflow s = level s + inflow s)
    (h : Host.Core.run Sys2Proof.core k s = .next t) :
    level t + sumOver outflow k s = level s + sumOver inflow k s := by
  induction k generalizing s with
  | zero => rw [run_zero_iff.mp h]; rfl
  | succ k ih =>
    obtain ⟨u, hsu, hut⟩ := run_succ_iff.mp h
    rw [sumOver_succ _ hsu, sumOver_succ _ hsu]
    have hfirst := hstep s u hsu
    have hrest := ih hut
    omega

/-- Settles O50: no step writes the configuration. -/
theorem configurationIsNeverWritten : Obligations.ConfigurationIsNeverWritten := by
  intro k s t h
  refine run_keeps (I := fun u => u.cfg = s.cfg) (fun u v hu huv => ?_) h rfl
  rw [eq_parallelNext_of_step huv]
  exact hu

end Sys2Proof.Machine
end

section
/-! Overruns and the queue over a run (`43_fifo_streamer.md` section 3, `60_exceptions.md` section 2). -/

namespace Sys2Proof.Machine

variable {k : Nat} {s t u : State}

theorem streamerTakes_strWriteData (s : State) : s.streamerTakes .strWriteData = s.writesData := by
  rw [Bool.eq_iff_iff, streamerTakes_iff, State.writesData, streamerArm]
  split_ifs <;> simp_all

theorem streamerTakes_strWriteSentinel (s : State) : s.streamerTakes .strWriteSentinel = s.writesSentinel := by
  rw [Bool.eq_iff_iff, streamerTakes_iff, State.writesSentinel, streamerArm]
  split_ifs <;> simp_all

theorem streamerTakes_strOverrunDetect (s : State) :
    s.streamerTakes .strOverrunDetect = (s.strState == strIdle && s.wordStb && !s.room) := by
  rw [Bool.eq_iff_iff, streamerTakes_iff, streamerArm]
  split_ifs <;> simp_all

theorem pendingOverrun_eq_zero_iff : s.pendingOverrun = 0 ↔ s.strState ≠ strReportOverrun := by
  simp [State.pendingOverrun]

/-- One cycle's overruns: a detection makes one pending, a sentinel ends it (rules R93, R95). -/
theorem step_balances_overruns (h : step s = .next t) :
    t.pendingOverrun + (if s.streamerTakes .strWriteSentinel then 1 else 0) =
      s.pendingOverrun + (if s.streamerTakes .strOverrunDetect then 1 else 0) := by
  obtain rfl := eq_parallelNext_of_step h
  rw [streamerTakes_strWriteSentinel, streamerTakes_strOverrunDetect]
  simp only [State.pendingOverrun, State.parallelNext, State.nextStreamer, State.writesSentinel]
  split_ifs <;> simp_all

/-- One cycle's bytes: what the two write arms append comes, what the environment removes goes (rules R35, R36). -/
theorem step_balances_bytes (h : step s = .next t) : t.queue.length + s.input.drain = s.queue.length +
    ((if s.streamerTakes .strWriteData then 1 else 0) + if s.streamerTakes .strWriteSentinel then 1 else 0) := by
  obtain ⟨hdrain, hqueue, -⟩ := queueTakesTheWrittenByte s t h
  have hone : ¬(s.writesData = true ∧ s.writesSentinel = true) := by
    simp only [State.writesData, State.writesSentinel]
    rintro ⟨hdata, hsentinel⟩
    simp_all
  rw [streamerTakes_strWriteData, streamerTakes_strWriteSentinel, hqueue, List.length_append, List.length_drop,
    State.we]
  cases hdata : s.writesData <;> cases hsentinel : s.writesSentinel
  case true.true => exact (hone ⟨hdata, hsentinel⟩).elim
  all_goals
    simp
    omega

/-- Settles O48: both balances of a step, summed over the run. -/
theorem overrunsAndBytesAreAccountedFor : Obligations.OverrunsAndBytesAreAccountedFor := by
  intro k s t h
  have hoverruns := run_balances (fun _ _ => step_balances_overruns) h
  have hbytes := run_balances (fun _ _ => step_balances_bytes) h
  rw [sumOver_add _ _ h] at hbytes
  simp only [countOver]
  exact ⟨by omega, by omega⟩

/-- A pending overrun without room writes nothing and stays (rule R94). -/
theorem step_of_pending_without_room (hpending : s.strState = strReportOverrun) (hroom : s.room = false)
    (h : step s = .next t) : s.we = false ∧ t.strState = strReportOverrun := by
  obtain rfl := eq_parallelNext_of_step h
  exact ⟨by simp [State.we_eq, hroom], by simp [State.parallelNext, State.nextStreamer, hpending, hroom]⟩

/-- Settles O47, by induction on the number of cycles without room. -/
theorem overrunHoldsUntilRoomThenSentinel : Obligations.OverrunHoldsUntilRoomThenSentinel := by
  intro k s t hpending hnoRoom h
  induction k generalizing s with
  | zero =>
    obtain rfl := run_zero_iff.mp h
    refine ⟨hpending, rfl, fun v hroom hv => ?_⟩
    obtain rfl := eq_parallelNext_of_step hv
    exact ⟨by simp [State.we_eq, hpending, hroom], State.din_of_reportOverrun hpending hroom,
      by simp [State.parallelNext, State.nextStreamer, hpending, hroom]⟩
  | succ k ih =>
    obtain ⟨u, hsu, hut⟩ := run_succ_iff.mp h
    obtain ⟨hroom, hrest⟩ := forall_run_succ hsu hnoRoom
    obtain ⟨hwe, hstill⟩ := step_of_pending_without_room hpending hroom hsu
    obtain ⟨hend, hnone, hsentinel⟩ := ih u hstill hrest hut
    refine ⟨hend, ?_, hsentinel⟩
    rw [countOver_succ _ hsu, hnone, hwe]
    rfl

/-- With no overrun pending and no strobe in `WAIT` a strobe meets `IDLE`. -/
theorem strState_of_wordStb (hinv : s.Inv) (hwait : s.NoStrobeInWait) (hnone : s.strState ≠ strReportOverrun)
    (hstb : s.wordStb = true) : s.strState = strIdle := by
  obtain hcode | hcode | hcode | hcode := stateCode_cases s.strState
  · exact hcode
  · exact (hnone hcode).elim
  · rw [hwait hcode] at hstb
    cases hstb
  · exact (hinv.streamer hcode).elim

/-- Settles O49, by induction on the number of cycles: a strobe meets `IDLE`, and with room its word is written. -/
theorem roomAtEveryStrobeMeansNoOverrun : Obligations.RoomAtEveryStrobeMeansNoOverrun := by
  intro k s t hinv hwait hnone hroom h
  induction k generalizing s with
  | zero => exact ⟨rfl, rfl, rfl⟩
  | succ k ih =>
    obtain ⟨u, hsu, hut⟩ := run_succ_iff.mp h
    obtain ⟨hnow, hrest⟩ := forall_run_succ hsu hroom
    have hidle := strState_of_wordStb hinv hwait hnone
    have hdata : s.streamerTakes .strWriteData = s.wordStb := by
      rw [streamerTakes_strWriteData, State.writesData]
      cases hstb : s.wordStb <;> simp_all
    have hdetect : s.streamerTakes .strOverrunDetect = false := by
      rw [streamerTakes_strOverrunDetect]
      cases hstb : s.wordStb <;> simp_all
    have hsentinel : s.streamerTakes .strWriteSentinel = false := by
      rw [streamerTakes_strWriteSentinel, State.writesSentinel, beq_eq_false_iff_ne.mpr hnone, Bool.false_and]
    have hnext : u.strState ≠ strReportOverrun := by
      have hpending := step_balances_overruns hsu
      rw [hsentinel, hdetect, pendingOverrun_eq_zero_iff.mpr hnone] at hpending
      exact pendingOverrun_eq_zero_iff.mp hpending
    obtain ⟨hstrobes, hdetections, hsentinels⟩ := ih u (everyStepKeepsTheInvariant s u hinv hsu)
      (noStrobeReachesTheCooldown s u hinv hwait hsu) hnext hrest hut
    rw [countOver_succ _ hsu, countOver_succ _ hsu, countOver_succ _ hsu, countOver_succ _ hsu, hstrobes, hdetections,
      hsentinels, hdata, hdetect, hsentinel]
    exact ⟨rfl, rfl, rfl⟩

end Sys2Proof.Machine
end

section
/-! The strobes over one period (`40_clock_generator.md` rule R68). -/

namespace Sys2Proof.Machine

variable {k : Nat} {s t u : State}

/-- A step goes to the next cycle number and keeps the divisor and the clock's phase. -/
theorem step_keeps_phase (hphase : s.ClockPhase) (h : step s = .next t) :
    t.ClockPhase ∧ t.cycle = s.cycle + 1 ∧ t.cfg = s.cfg := by
  refine ⟨everyStepKeepsTheClockPhase s t hphase h, ?_⟩
  rw [eq_parallelNext_of_step h]
  exact ⟨rfl, rfl⟩

/-- Over a run in the clock's phase, cycles that the cycle number decides are counted by their numbers. -/
theorem countOver_eq_card {p : State → Bool} {q : Nat → Prop} [DecidablePred q] {c : Config}
    (hp : ∀ u : State, u.ClockPhase → u.cfg = c → 1 ≤ u.cycle → (p u = true ↔ q u.cycle)) (hphase : s.ClockPhase)
    (hc : s.cfg = c) (hcycle : 1 ≤ s.cycle) (h : Host.Core.run Sys2Proof.core k s = .next t) :
    countOver p k s = ((Finset.Ico s.cycle (s.cycle + k)).filter q).card := by
  induction k generalizing s with
  | zero => simp
  | succ k ih =>
    obtain ⟨u, hsu, hut⟩ := run_succ_iff.mp h
    obtain ⟨huphase, hucycle, hucfg⟩ := step_keeps_phase hphase hsu
    rw [countOver_succ _ hsu, ih huphase (hucfg.trans hc) (by omega) hut, hucycle, Finset.card_filter,
      Finset.card_filter, Finset.sum_eq_sum_Ico_succ_bot (by omega : s.cycle < s.cycle + (k + 1)), add_right_comm,
      add_assoc s.cycle]
    simp only [hp s hphase hc hcycle]

/-- In any `D` cycles the cycle number has each remainder modulo `D` once. -/
theorem card_filter_mod_eq {d r : Nat} (hr : r < d) (t : Nat) :
    ((Finset.Ico t (t + d)).filter (fun i => i % d = r)).card = 1 := by
  have hperiodic : Function.Periodic (fun i => i % d = r) d := fun i => by simp
  rw [Nat.filter_Ico_card_eq_of_periodic t d _ hperiodic, Nat.count_eq_card_filter_range, Finset.card_eq_one]
  refine ⟨r, Finset.ext fun i => ?_⟩
  rw [Finset.mem_filter, Finset.mem_range, Finset.mem_singleton]
  constructor
  · rintro ⟨hi, hmod⟩
    rwa [Nat.mod_eq_of_lt hi] at hmod
  · rintro rfl
    exact ⟨hr, Nat.mod_eq_of_lt hr⟩

/-- The first step of a run in the clock's phase shows that the configuration is legal. -/
theorem legal_of_run (h : Host.Core.run Sys2Proof.core k s = .next t) (hk : 0 < k) : s.cfg.legal = true := by
  obtain ⟨k, rfl⟩ := Nat.exists_eq_succ_of_ne_zero hk.ne'
  obtain ⟨u, hsu, -⟩ := run_succ_iff.mp h
  exact (step_eq_next_iff.mp hsu).1

/-- The closed form of the counter never holds at divisor 0. -/
theorem divisor_pos_of_clockPhase (h : s.ClockPhase) : 0 < s.cfg.divisor := by
  have hcount := h.count
  by_contra hzero
  rw [Nat.eq_zero_of_not_pos hzero] at hcount
  simp only [Int.ofNat_zero, Int.emod_zero] at hcount
  omega

/-- Settles O41: from cycle 1 on each strobe is one remainder of the cycle number, and the two remainders differ. -/
theorem strobesFireOncePerPeriod : Obligations.StrobesFireOncePerPeriod := by
  intro s t hphase hcycle h
  have hpos := divisor_pos_of_clockPhase hphase
  obtain ⟨hhalfPos, hhalfLt⟩ := halfPeriod_bounds (legal_of_run h hpos)
  unfold halfPeriod at hhalfPos hhalfLt
  have hstrobes : ∀ u : State, u.ClockPhase → u.cfg = s.cfg → 1 ≤ u.cycle →
      (u.stbR = true ↔ u.cycle % s.cfg.divisor = s.cfg.divisor - s.cfg.divisor / 2) ∧
      (u.stbF = true ↔ u.cycle % s.cfg.divisor = 0) := by
    intro u hu hcfg hu1
    rw [← hcfg] at hpos ⊢
    obtain ⟨-, -, hstbR, hstbF⟩ := (clockPhase_iff hpos).mp hu
    refine ⟨hstbR, hstbF.trans (and_iff_left_of_imp fun hzero => ?_)⟩
    exact Nat.le_of_dvd hu1 (Nat.dvd_of_mod_eq_zero hzero)
  refine ⟨?_, ?_, ?_⟩
  · rw [countOver_eq_card (q := fun i => i % s.cfg.divisor = s.cfg.divisor - s.cfg.divisor / 2)
      (fun u hu hcfg hu1 => (hstrobes u hu hcfg hu1).1) hphase rfl hcycle h]
    exact card_filter_mod_eq (by omega) _
  · rw [countOver_eq_card (q := fun i => i % s.cfg.divisor = 0)
      (fun u hu hcfg hu1 => (hstrobes u hu hcfg hu1).2) hphase rfl hcycle h]
    exact card_filter_mod_eq hpos _
  · rw [countOver_eq_card (q := fun _ => False) (fun u hu hcfg hu1 => ?_) hphase rfl hcycle h]
    · simp
    · obtain ⟨hstbR, hstbF⟩ := hstrobes u hu hcfg hu1
      rw [Bool.and_eq_true, hstbR, hstbF]
      exact iff_of_false (by omega) id

end Sys2Proof.Machine
end

section
/-! The host consumer's operations (`48_host_consumer.md` rules R106 to R111): what leaving the loop and taking a
chunk do to file, buffer, log and closes. -/

namespace Sys2Proof.Machine

variable {c : Consumer} {threshold : Nat} {chunk bytes : List Byte} {e : HostEvent} {es : List HostEvent}

/-- What the session has taken in: the file's content and, after it, the buffer's. -/
def Consumer.content (c : Consumer) : List Byte := c.file ++ c.buf

section fields
variable (c : Consumer) (x : LogEntry) (bytes : List Byte)
@[simp] theorem Consumer.note_phase : (c.note x).phase = c.phase := rfl
@[simp] theorem Consumer.note_buf : (c.note x).buf = c.buf := rfl
@[simp] theorem Consumer.note_file : (c.note x).file = c.file := rfl
@[simp] theorem Consumer.note_log : (c.note x).log = c.log ++ [x] := rfl
@[simp] theorem Consumer.note_closes : (c.note x).closes = c.closes := rfl
@[simp] theorem Consumer.note_writes : (c.note x).writes = c.writes := rfl
@[simp] theorem Consumer.note_content : (c.note x).content = c.content := rfl
@[simp] theorem Consumer.gain_phase : (c.gain bytes).phase = c.phase := rfl
@[simp] theorem Consumer.gain_buf : (c.gain bytes).buf = c.buf ++ bytes := rfl
@[simp] theorem Consumer.gain_file : (c.gain bytes).file = c.file := rfl
@[simp] theorem Consumer.gain_log : (c.gain bytes).log = c.log := rfl
@[simp] theorem Consumer.gain_closes : (c.gain bytes).closes = c.closes := rfl
@[simp] theorem Consumer.gain_writes : (c.gain bytes).writes = c.writes := rfl
@[simp] theorem Consumer.gain_content : (c.gain bytes).content = c.content ++ bytes :=
  (List.append_assoc c.file c.buf bytes).symm
end fields

section leave
variable (c : Consumer) (path : ExitPath) (failed : Bool) (e : HostEvent)

@[simp] theorem Consumer.leave_phase : (c.leave path failed e).phase = .exited path := by
  unfold Consumer.leave
  split <;> rfl

@[simp] theorem Consumer.leave_closes : (c.leave path failed e).closes = c.closes + 1 := by
  unfold Consumer.leave
  split <;> rfl

@[simp] theorem Consumer.leave_buf : (c.leave path failed e).buf = [] := by
  unfold Consumer.leave
  split
  next hempty => exact List.isEmpty_iff.mp hempty
  next => rfl

/-- The exit path writes a buffer that is not empty, once (rule R109). -/
theorem Consumer.leave_writes : (c.leave path failed e).writes = c.writes + if c.buf = [] then 0 else 1 := by
  unfold Consumer.leave
  split <;> simp_all

/-- A failed exit write is logged (rule R110). -/
theorem Consumer.leave_log : (c.leave path failed e).log =
    c.log ++ if c.buf ≠ [] ∧ e.exitWriteFails = true then [.writeFailure] else [] := by
  unfold Consumer.leave
  split
  next hempty => simp [List.isEmpty_iff.mp hempty]
  next hfull => cases e.exitWriteFails <;> simp_all

/-- After a failed write the file holds a part of its intended content, else all of it (rules R109, R110). -/
theorem Consumer.leave_file : (c.leave path failed e).file =
    if c.buf ≠ [] ∧ (failed = true ∨ e.exitWriteFails = true) then c.content.take e.kept else c.content := by
  unfold Consumer.leave Consumer.content
  split
  next hempty => simp [List.isEmpty_iff.mp hempty]
  next hfull => simp_all

/-- Leaving the loop moves the buffer to the file, so what was taken in stays or is cut short. -/
theorem Consumer.leave_content : (c.leave path failed e).content =
    if c.buf ≠ [] ∧ (failed = true ∨ e.exitWriteFails = true) then c.content.take e.kept else c.content := by
  rw [Consumer.content, Consumer.leave_buf, List.append_nil, Consumer.leave_file]

theorem Consumer.leave_content_prefix : (c.leave path failed e).content <+: c.content := by
  rw [Consumer.leave_content]
  split
  · exact List.take_prefix _ _
  · exact List.prefix_rfl

end leave

/-- Where no write before it failed, an exit write that succeeds, or is not logged as failed, leaves all of the
content. -/
theorem leave_content_eq {path : ExitPath} (h : e.exitWriteFails = false ∨
    (c.leave path false e).log.count .writeFailure = c.log.count .writeFailure) :
    (c.leave path false e).content = c.content := by
  rw [Consumer.leave_log] at h
  rw [Consumer.leave_content]
  refine if_neg fun ⟨hbuf, hfails⟩ => ?_
  simp_all

theorem contains_sentinelByte_iff : chunk.contains sentinelByte = true ↔ (0xFF : Byte) ∈ chunk := List.contains_iff_mem

/-- A chunk that holds the sentinel ends the session with the bytes before it (rule R107). -/
theorem takeChunk_of_mem (h : (0xFF : Byte) ∈ chunk) : c.takeChunk threshold chunk e =
    ((c.gain (beforeSentinel chunk)).note .overrun).leave .overrun false e := by
  have hne : chunk.isEmpty = false := by
    cases chunk with
    | nil => cases h
    | cons => rfl
  simp only [Consumer.takeChunk, hne, contains_sentinelByte_iff.mpr h, if_true, Bool.false_eq_true, if_false]

/-- Any other chunk of some bytes goes to the buffer, which is flushed beyond the threshold (rule R108). -/
theorem takeChunk_of_not_mem (hne : chunk ≠ []) (h : (0xFF : Byte) ∉ chunk) : c.takeChunk threshold chunk e =
    if threshold < (c.buf ++ chunk).length then (c.gain chunk).flush e else c.gain chunk := by
  have hmem : chunk.contains sentinelByte = false := by rwa [Bool.eq_false_iff, ne_eq, contains_sentinelByte_iff]
  simp only [Consumer.takeChunk, List.isEmpty_eq_false_iff.mpr hne, hmem, Bool.false_eq_true, if_false]
  rfl

/-- The consumer after a flush that failed, about to leave the loop (rule R110). -/
def Consumer.flushFailed (c : Consumer) (chunk : List Byte) : Consumer :=
  { (c.gain chunk).note .writeFailure with writes := c.writes + 1 }

/-- A chunk whose flush fails ends the session (rule R110). -/
theorem takeChunk_of_flushFails (hne : chunk ≠ []) (h : (0xFF : Byte) ∉ chunk)
    (hlong : threshold < (c.buf ++ chunk).length) (hfails : e.flushFails = true) :
    c.takeChunk threshold chunk e = (c.flushFailed chunk).leave .writeFailure true e := by
  rw [takeChunk_of_not_mem hne h, if_pos hlong, Consumer.flush, hfails]
  rfl

/-- The consumer goes on with a chunk taken in: in the buffer, or flushed to the file (rule R108). -/
structure Consumer.TookIn (c d : Consumer) (chunk : List Byte) : Prop where
  phase : d.phase = c.phase
  content : d.content = c.content ++ chunk
  log : d.log = c.log
  closes : d.closes = c.closes

/-- A chunk without a sentinel is taken in, unless a flush it leads to fails (rule R108). -/
theorem takeChunk_cases (h : (0xFF : Byte) ∉ chunk) :
    c.TookIn (c.takeChunk threshold chunk e) chunk ∨
    (e.flushFails = true ∧ c.takeChunk threshold chunk e = (c.flushFailed chunk).leave .writeFailure true e) := by
  by_cases hne : chunk = []
  · subst hne
    exact .inl ⟨rfl, (List.append_nil _).symm, rfl, rfl⟩
  by_cases hlong : threshold < (c.buf ++ chunk).length
  · cases hfails : e.flushFails with
    | true => exact .inr ⟨rfl, takeChunk_of_flushFails hne h hlong hfails⟩
    | false =>
      rw [takeChunk_of_not_mem hne h, if_pos hlong, Consumer.flush, hfails]
      exact .inl ⟨rfl, by simp [Consumer.content], rfl, rfl⟩
  · rw [takeChunk_of_not_mem hne h, if_neg hlong]
    exact .inl ⟨rfl, Consumer.gain_content c chunk, rfl, rfl⟩

end Sys2Proof.Machine
end

section
/-! One answer of the transport (`48_host_consumer.md` rules R103, R105): the session goes on with what was delivered,
or ends. -/

namespace Sys2Proof.Machine

variable {c : Consumer} {threshold : Nat} {bytes good trail : List Byte} {e : HostEvent} {es : List HostEvent}

theorem Consumer.answer_of_endOfStream (hphase : c.phase = .requesting) (hresult : e.result = .endOfStream)
    (threshold : Nat) (bytes : List Byte) :
    Consumer.answer threshold (c, bytes) e = (c.leave .endOfStream false e, bytes) := by
  simp only [Consumer.answer, hphase, hresult]

theorem Consumer.answer_of_failure (hphase : c.phase = .requesting) (hresult : e.result = .failure)
    (threshold : Nat) (bytes : List Byte) : Consumer.answer threshold (c, bytes) e =
      ((c.note .transportFailure).leave .transportFailure false e, bytes) := by
  simp only [Consumer.answer, hphase, hresult]

/-- After the loop's exit no answers change anything (rule R109; log entry 16). -/
theorem answers_of_exited {path : ExitPath} (h : c.phase = .exited path) (threshold : Nat) (bytes : List Byte)
    (es : List HostEvent) : Consumer.answers threshold c bytes es = (c, bytes) := by
  induction es with
  | nil => rfl
  | cons e es ih => rw [answers_cons, answer_of_exited h, ih]

theorem answers_append (threshold : Nat) (c : Consumer) (bytes : List Byte) (first last : List HostEvent) :
    Consumer.answers threshold c bytes (first ++ last) =
      Consumer.answers threshold (Consumer.answers threshold c bytes first).1
        (Consumer.answers threshold c bytes first).2 last :=
  List.foldl_append

/-- The bytes one answer delivers (rule R103). -/
def Consumer.handed (c : Consumer) (bytes : List Byte) (e : HostEvent) : List Byte :=
  match c.phase, e.result with
  | .requesting, .chunk n => bytes.take n
  | _, _ => []

theorem delivered_cons (threshold : Nat) (c : Consumer) (bytes : List Byte) (e : HostEvent) (es : List HostEvent) :
    Consumer.delivered threshold (c, bytes) (e :: es) =
      c.handed bytes e ++ Consumer.delivered threshold (Consumer.answer threshold (c, bytes) e) es := rfl

theorem Consumer.handed_of_exited {path : ExitPath} (h : c.phase = .exited path) (bytes : List Byte) (e : HostEvent) :
    c.handed bytes e = [] := by
  simp [Consumer.handed, h]

theorem delivered_of_exited {path : ExitPath} (h : c.phase = .exited path) (threshold : Nat) (bytes : List Byte)
    (es : List HostEvent) : Consumer.delivered threshold (c, bytes) es = [] := by
  induction es with
  | nil => rfl
  | cons e es ih => rw [delivered_cons, Consumer.handed_of_exited h, answer_of_exited h, ih, List.append_nil]

theorem beforeSentinel_of_not_mem (h : (0xFF : Byte) ∉ bytes) : beforeSentinel bytes = bytes := by
  rw [beforeSentinel, List.takeWhile_eq_self_iff]
  intro b hb
  rw [bne_iff_ne]
  rintro rfl
  exact h hb

/-- The bytes before the first sentinel of a stream whose first part has none. -/
theorem beforeSentinel_append_of_not_mem (h : (0xFF : Byte) ∉ good) (trail : List Byte) :
    beforeSentinel (good ++ trail) = good ++ beforeSentinel trail := by
  have hgood := List.takeWhile_eq_self_iff.mp (beforeSentinel_of_not_mem h)
  rw [beforeSentinel, List.takeWhile_append_of_pos hgood, beforeSentinel]

/-- The bytes before the first sentinel lie in the first part that holds one. -/
theorem beforeSentinel_append_of_mem (h : (0xFF : Byte) ∈ good) (trail : List Byte) :
    beforeSentinel (good ++ trail) = beforeSentinel good := by
  rw [beforeSentinel, List.takeWhile_append, beforeSentinel]
  refine if_neg fun hlength => ?_
  have hall := List.takeWhile_eq_self_iff.mp ((List.takeWhile_prefix _).eq_of_length hlength)
  exact bne_iff_ne.mp (hall _ h) rfl

/-- What `d` holds after a session took in `got` from `c` on: a part from the start of the intended content, and all
of it where the writes succeed (`ok`) or none was logged as failed (rule R110, decision D20). -/
structure Consumer.Holds (c d : Consumer) (got : List Byte) (ok : Prop) : Prop where
  content_prefix : d.content <+: c.content ++ beforeSentinel got
  content_of_ok : ok → d.content = c.content ++ beforeSentinel got
  content_of_log : d.log.count .writeFailure = c.log.count .writeFailure → d.content = c.content ++ beforeSentinel got
  log_le : c.log.count .writeFailure ≤ d.log.count .writeFailure

/-- How an answer that delivers `got` ends a session (rules R107, R109, R110). -/
structure Consumer.Ended (c d : Consumer) (got : List Byte) (e : HostEvent) : Prop where
  phase : ∃ path, d.phase = .exited path
  buf : d.buf = []
  closes : d.closes = c.closes + 1
  holds : c.Holds d got (e.flushFails = false ∧ e.exitWriteFails = false)

/-- Leaving the loop with no write failed before ends the session, whatever bytes were gained and event noted. -/
theorem ended_of_leave {path : ExitPath} {d : Consumer} {got : List Byte}
    (hcontent : d.content = c.content ++ beforeSentinel got) (hcloses : d.closes = c.closes)
    (hlog : d.log.count .writeFailure = c.log.count .writeFailure) : c.Ended (d.leave path false e) got e where
  phase := ⟨path, Consumer.leave_phase _ _ _ _⟩
  buf := Consumer.leave_buf _ _ _ _
  closes := by rw [Consumer.leave_closes, hcloses]
  holds :=
    { content_prefix := hcontent ▸ Consumer.leave_content_prefix _ _ _ _
      content_of_ok := fun hok => (leave_content_eq (.inl hok.2)).trans hcontent
      content_of_log := fun h => (leave_content_eq (.inr (h.trans hlog.symm))).trans hcontent
      log_le := by
        rw [Consumer.leave_log, List.count_append, hlog]
        omega }

/-- Leaving the loop after a failed flush ends the session with the failure logged (rule R110). -/
theorem ended_of_flushFailed {chunk : List Byte} (h : (0xFF : Byte) ∉ chunk) (hfails : e.flushFails = true) :
    c.Ended ((c.flushFailed chunk).leave .writeFailure true e) chunk e := by
  have hcontent : (c.flushFailed chunk).content = c.content ++ beforeSentinel chunk := by
    rw [beforeSentinel_of_not_mem h]
    exact Consumer.gain_content c chunk
  have hlog : c.log.count .writeFailure <
      ((c.flushFailed chunk).leave .writeFailure true e).log.count .writeFailure := by
    rw [Consumer.leave_log]
    simp [Consumer.flushFailed]
  refine ⟨⟨_, Consumer.leave_phase _ _ _ _⟩, Consumer.leave_buf _ _ _ _, Consumer.leave_closes _ _ _ _, ?_⟩
  constructor
  case content_prefix => exact hcontent ▸ Consumer.leave_content_prefix _ _ _ _
  case content_of_ok =>
    rintro ⟨hok, -⟩
    rw [hfails] at hok
    cases hok
  case content_of_log =>
    intro heq
    omega
  case log_le => exact hlog.le

/-- What one answer does to a session that still requests: it goes on with the bytes delivered, or ends (rules R105 to
R111). -/
theorem answer_cases (h : c.phase = .requesting) (threshold : Nat) (bytes : List Byte) (e : HostEvent) :
    ((0xFF : Byte) ∉ c.handed bytes e ∧
      c.TookIn (Consumer.answer threshold (c, bytes) e).1 (c.handed bytes e)) ∨
    c.Ended (Consumer.answer threshold (c, bytes) e).1 (c.handed bytes e) e := by
  cases hresult : e.result with
  | endOfStream =>
    have hnone : c.handed bytes e = [] := by simp [Consumer.handed, h, hresult]
    rw [Consumer.answer_of_endOfStream h hresult, hnone]
    exact .inr (ended_of_leave (List.append_nil _).symm rfl rfl)
  | failure =>
    have hnone : c.handed bytes e = [] := by simp [Consumer.handed, h, hresult]
    rw [Consumer.answer_of_failure h hresult, hnone]
    exact .inr (ended_of_leave (List.append_nil _).symm rfl (by simp))
  | chunk n =>
    have htaken : c.handed bytes e = bytes.take n := by simp [Consumer.handed, h, hresult]
    rw [Consumer.answer_of_chunk h hresult, htaken]
    by_cases hmem : (0xFF : Byte) ∈ bytes.take n
    · rw [takeChunk_of_mem hmem]
      exact .inr (ended_of_leave (d := (c.gain (beforeSentinel (bytes.take n))).note .overrun)
        (Consumer.gain_content c (beforeSentinel (bytes.take n))) rfl (by simp))
    · obtain htook | ⟨hfails, hended⟩ := takeChunk_cases (c := c) (threshold := threshold) (e := e) hmem
      · exact .inl ⟨hmem, htook⟩
      · rw [hended]
        exact .inr (ended_of_flushFailed hmem hfails)

end Sys2Proof.Machine
end

section
/-! A session's file (`48_host_consumer.md` section 2): closed once, and the delivered bytes before the first sentinel
or, after a failed write, a part of them from the start. -/

namespace Sys2Proof.Machine

variable {c d d' : Consumer} {threshold : Nat} {bytes good got : List Byte} {e : HostEvent} {es : List HostEvent}

/-- An answer keeps that the file is closed exactly once, when the loop is left (rule R109). -/
theorem answer_closedOnce (h : c.ClosedOnce) (threshold : Nat) (bytes : List Byte) (e : HostEvent) :
    (Consumer.answer threshold (c, bytes) e).1.ClosedOnce := by
  cases hphase : c.phase with
  | exited path => rwa [answer_of_exited hphase]
  | requesting =>
    have hcloses : c.closes = 0 := by
      obtain ⟨-, hzero⟩ | ⟨path, hexited, -⟩ := h
      · exact hzero
      · rw [hphase] at hexited
        cases hexited
    obtain ⟨-, htook⟩ | hended := answer_cases hphase threshold bytes e
    · exact .inl ⟨htook.phase.trans hphase, htook.closes.trans hcloses⟩
    · obtain ⟨path, hexited⟩ := hended.phase
      exact .inr ⟨path, hexited, by rw [hended.closes, hcloses], hended.buf⟩

theorem answers_closedOnce (h : c.ClosedOnce) (threshold : Nat) (bytes : List Byte) (es : List HostEvent) :
    (Consumer.answers threshold c bytes es).1.ClosedOnce := by
  induction es generalizing c bytes with
  | nil => exact h
  | cons e es ih =>
    rw [answers_cons]
    exact ih (answer_closedOnce h threshold bytes e) _

/-- Settles O58: a step's host is the host after the cycle's answers. -/
theorem everyStepKeepsTheFileClosedOnce : Obligations.EveryStepKeepsTheFileClosedOnce := by
  intro s t hclosed h
  rw [eq_parallelNext_of_step h]
  exact answers_closedOnce hclosed _ _ _

theorem Consumer.Holds.refl (c : Consumer) (ok : Prop) : c.Holds c [] ok := by
  have hcontent : c.content = c.content ++ beforeSentinel [] := (List.append_nil _).symm
  exact ⟨hcontent ▸ List.prefix_rfl, fun _ => hcontent, fun _ => hcontent, le_rfl⟩

theorem Consumer.Holds.mono {ok ok' : Prop} (h : c.Holds d got ok) (himp : ok' → ok) : c.Holds d got ok' :=
  ⟨h.content_prefix, fun hok => h.content_of_ok (himp hok), h.content_of_log, h.log_le⟩

/-- What is taken in before stands in the content before the rest. -/
theorem Consumer.Holds.of_tookIn {ok : Prop} (hgood : (0xFF : Byte) ∉ good) (htook : c.TookIn d good)
    (h : d.Holds d' got ok) : c.Holds d' (good ++ got) ok := by
  have hcontent : d.content ++ beforeSentinel got = c.content ++ beforeSentinel (good ++ got) := by
    rw [htook.content, beforeSentinel_append_of_not_mem hgood, List.append_assoc]
  obtain ⟨hprefix, hok, hlog, hle⟩ := h
  rw [hcontent] at hprefix hok hlog
  rw [htook.log] at hlog hle
  exact ⟨hprefix, hok, hlog, hle⟩

/-- After any answers a session holds what they delivered before the first sentinel, or a part of it, by induction on
the answers. -/
theorem answers_holds (threshold : Nat) (c : Consumer) (bytes : List Byte) (es : List HostEvent) :
    c.Holds (Consumer.answers threshold c bytes es).1 (Consumer.delivered threshold (c, bytes) es)
      (∀ e ∈ es, e.flushFails = false ∧ e.exitWriteFails = false) := by
  induction es generalizing c bytes with
  | nil => exact .refl c _
  | cons e es ih =>
    rw [answers_cons, delivered_cons]
    cases hphase : c.phase with
    | exited path =>
      rw [answer_of_exited hphase, Consumer.handed_of_exited hphase, answers_of_exited hphase,
        delivered_of_exited hphase]
      exact .refl c _
    | requesting =>
      obtain ⟨hgood, htook⟩ | hended := answer_cases hphase threshold bytes e
      · exact .of_tookIn hgood htook ((ih _ _).mono (fun hok => fun e' he' => hok e' (List.mem_cons_of_mem e he')))
      · obtain ⟨path, hexited⟩ := hended.phase
        rw [answers_of_exited hexited, delivered_of_exited hexited, List.append_nil]
        exact hended.holds.mono (fun hok => hok e List.mem_cons_self)

/-- Settles O57: file and buffer are what `answers_holds` says of the content. -/
theorem failedWriteLeavesAPartFromTheStart : Obligations.FailedWriteLeavesAPartFromTheStart := by
  intro threshold c bytes es
  obtain ⟨hprefix, hok, hlog, -⟩ := answers_holds threshold c bytes es
  exact ⟨hprefix, hok, hlog⟩

/-- A session that ended in a sentinel, its writes having succeeded (rules R107, R109). -/
structure Consumer.Overran (c d : Consumer) (got : List Byte) : Prop where
  phase : d.phase = .exited .overrun
  file : d.file = c.content ++ beforeSentinel got
  buf : d.buf = []
  log : d.log = c.log ++ [.overrun]
  closes : d.closes = c.closes + 1

theorem takeChunk_overran (hmem : (0xFF : Byte) ∈ got) (hok : e.exitWriteFails = false) :
    c.Overran (c.takeChunk threshold got e) got := by
  rw [takeChunk_of_mem hmem]
  constructor
  case phase => exact Consumer.leave_phase _ _ _ _
  case file => simp [Consumer.leave_file, hok]
  case buf => exact Consumer.leave_buf _ _ _ _
  case log => simp [Consumer.leave_log, hok]
  case closes => exact Consumer.leave_closes _ _ _ _

/-- Settles O55: the bytes before the first sentinel are those before it in the chunk. -/
theorem sentinelChunkEndsTheSession : Obligations.SentinelChunkEndsTheSession := by
  intro threshold c good trail e hgood hok
  have hover := takeChunk_overran (c := c) (threshold := threshold) (got := good ++ 0xFF :: trail) (by simp) hok
  have hbefore : beforeSentinel (good ++ 0xFF :: trail) = good := by
    rw [beforeSentinel_append_of_not_mem hgood]
    exact List.append_nil good
  refine ⟨?_, hover.buf, hover.log, hover.phase, hover.closes, answers_of_exited hover.phase threshold⟩
  rw [hover.file, hbefore]
  rfl

end Sys2Proof.Machine
end

section
/-! Whole sessions whose writes succeed, and each answer that ends one (`48_host_consumer.md` section 2). -/

namespace Sys2Proof.Machine

variable {c d d' : Consumer} {threshold : Nat} {bytes good got : List Byte} {e : HostEvent} {sizes : List Nat}
  {ok : TransportResult → HostEvent}

theorem Consumer.TookIn.trans (h : c.TookIn d good) (h' : d.TookIn d' got) : c.TookIn d' (good ++ got) where
  phase := h'.phase.trans h.phase
  content := by rw [h'.content, h.content, List.append_assoc]
  log := h'.log.trans h.log
  closes := h'.closes.trans h.closes

theorem Consumer.Overran.of_tookIn (hgood : (0xFF : Byte) ∉ good) (h : c.TookIn d good) (h' : d.Overran d' got) :
    c.Overran d' (good ++ got) where
  phase := h'.phase
  file := by rw [h'.file, h.content, beforeSentinel_append_of_not_mem hgood, List.append_assoc]
  buf := h'.buf
  log := by rw [h'.log, h.log]
  closes := by rw [h'.closes, h.closes]

/-- However the bytes are cut into chunks, a session whose writes succeed takes all of them in or ends in the first
sentinel among them; by induction on the chunks. -/
theorem answers_chunks (hok : ∀ r, (ok r).result = r ∧ (ok r).flushFails = false ∧ (ok r).exitWriteFails = false)
    (hphase : c.phase = .requesting) (threshold : Nat) (bytes : List Byte) (sizes : List Nat) :
    let d := (Consumer.answers threshold c bytes (sizes.map fun n => ok (.chunk n))).1
    ((0xFF : Byte) ∉ bytes.take sizes.sum ∧ c.TookIn d (bytes.take sizes.sum)) ∨
      ((0xFF : Byte) ∈ bytes.take sizes.sum ∧ c.Overran d (bytes.take sizes.sum)) := by
  induction sizes generalizing c bytes with
  | nil => exact .inl ⟨nofun, rfl, (List.append_nil _).symm, rfl, rfl⟩
  | cons n sizes ih =>
    obtain ⟨hresult, hflush, hexit⟩ := hok (.chunk n)
    rw [List.map_cons, answers_cons, Consumer.answer_of_chunk hphase hresult, List.sum_cons, List.take_add,
      List.mem_append]
    by_cases hmem : (0xFF : Byte) ∈ bytes.take n
    · have hover := takeChunk_overran (c := c) (threshold := threshold) hmem hexit
      rw [answers_of_exited hover.phase]
      refine .inr ⟨.inl hmem, hover.phase, ?_, hover.buf, hover.log, hover.closes⟩
      rw [hover.file, beforeSentinel_append_of_mem hmem]
    · obtain htook | ⟨hfails, -⟩ := takeChunk_cases (c := c) (threshold := threshold) (e := ok (.chunk n)) hmem
      · obtain ⟨hnone, hrest⟩ | ⟨hsome, hover⟩ := ih (htook.phase.trans hphase) (bytes.drop n)
        · exact .inl ⟨not_or.mpr ⟨hmem, hnone⟩, htook.trans hrest⟩
        · exact .inr ⟨.inr hsome, .of_tookIn hmem htook hover⟩
      · rw [hflush] at hfails
        cases hfails

/-- A session that ended outside a sentinel, its writes having succeeded (rules R109, R111). -/
structure Consumer.Closed (c d : Consumer) (path : ExitPath) (noted : List LogEntry) : Prop where
  phase : d.phase = .exited path
  file : d.file = c.content
  buf : d.buf = []
  log : d.log = c.log ++ noted
  closes : d.closes = c.closes + 1

theorem endOfStream_closed (hphase : c.phase = .requesting) (hresult : e.result = .endOfStream)
    (hok : e.exitWriteFails = false) : c.Closed (Consumer.answer threshold (c, bytes) e).1 .endOfStream [] := by
  rw [Consumer.answer_of_endOfStream hphase hresult]
  exact ⟨by simp, by simp [Consumer.leave_file, hok], by simp, by simp [Consumer.leave_log, hok], by simp⟩

theorem failure_closed (hphase : c.phase = .requesting) (hresult : e.result = .failure)
    (hok : e.exitWriteFails = false) :
    c.Closed (Consumer.answer threshold (c, bytes) e).1 .transportFailure [.transportFailure] := by
  rw [Consumer.answer_of_failure hphase hresult]
  exact ⟨by simp, by simp [Consumer.leave_file, hok], by simp, by simp [Consumer.leave_log, hok], by simp⟩

/-- Settles O56: the chunks leave a session that requests or one that overran; the last answer ends the first and leaves
the second. -/
theorem fileHoldsTheBytesBeforeTheFirstSentinel : Obligations.FileHoldsTheBytesBeforeTheFirstSentinel := by
  intro threshold kept bytes sizes last hlast ok chunks got mid d
  have hok : ∀ r, (ok r).result = r ∧ (ok r).flushFails = false ∧ (ok r).exitWriteFails = false :=
    fun r => ⟨rfl, rfl, rfl⟩
  have hd : d = (Consumer.answer threshold
      (mid, (Consumer.answers threshold Consumer.opened bytes chunks).2) (ok last)).1 := by
    simp only [d, answers_append, answers_cons, answers_nil, mid]
  obtain ⟨hnone, htook⟩ | ⟨hsome, hover⟩ := answers_chunks hok (c := Consumer.opened) rfl threshold bytes sizes
  · have hphase : mid.phase = .requesting := htook.phase
    have hcontent : mid.content = got := htook.content
    have hlog : mid.log = [] := htook.log
    have hcloses : mid.closes = 0 := htook.closes
    have hgot : got.takeWhile (fun b => b != 0xFF) = got := beforeSentinel_of_not_mem hnone
    obtain ⟨path, noted, hclosed, hstream, hfailure⟩ : ∃ path noted, mid.Closed d path noted ∧
        (last = .endOfStream → path = .endOfStream ∧ noted = []) ∧
        (last = .failure → path = .transportFailure ∧ noted = [.transportFailure]) := by
      rw [hd]
      obtain rfl | rfl := hlast
      · exact ⟨_, _, endOfStream_closed hphase rfl rfl, fun _ => ⟨rfl, rfl⟩, nofun⟩
      · exact ⟨_, _, failure_closed hphase rfl rfl, nofun, fun _ => ⟨rfl, rfl⟩⟩
    rw [hgot]
    refine ⟨hcontent, hclosed.file.trans hcontent, hclosed.buf, by rw [hclosed.closes, hcloses],
      fun hsome => (hnone hsome).elim, fun _ hend => ?_, fun _ hend => ?_⟩
    · obtain ⟨rfl, rfl⟩ := hstream hend
      exact ⟨hclosed.phase, by rw [hclosed.log, hlog]; rfl⟩
    · obtain ⟨rfl, rfl⟩ := hfailure hend
      exact ⟨hclosed.phase, by rw [hclosed.log, hlog]; rfl⟩
  · have hmid : d = mid := by rw [hd, answer_of_exited hover.phase]
    have hfile : mid.file = got.takeWhile (fun b => b != 0xFF) := hover.file
    have hbuf : mid.buf = [] := hover.buf
    rw [hmid, hbuf, List.append_nil]
    exact ⟨hfile, hfile, rfl, hover.closes, fun _ => ⟨hover.phase, hover.log⟩, fun hnone => (hnone hsome).elim,
      fun hnone => (hnone hsome).elim⟩

/-- Leaving the loop with `buf` gained and `log` noted since `c`, no write having failed before: the buffer is written
once if it is not empty, and a failed write is logged and leaves a part of the content (rules R109, R110). -/
theorem leave_fields {buf : List Byte} {log : List LogEntry} (path : ExitPath) (e : HostEvent) (hbuf : d.buf = buf)
    (hlog : d.log = c.log ++ log) (hfile : d.file = c.file) (hcloses : d.closes = c.closes)
    (hwrites : d.writes = c.writes) :
    (d.leave path false e).phase = .exited path ∧ (d.leave path false e).buf = [] ∧
    (d.leave path false e).closes = c.closes + 1 ∧
    (d.leave path false e).writes = c.writes + (if buf = [] then 0 else 1) ∧
    (d.leave path false e).log =
      c.log ++ log ++ (if buf ≠ [] ∧ e.exitWriteFails = true then [.writeFailure] else []) ∧
    (d.leave path false e).file =
      if buf ≠ [] ∧ e.exitWriteFails = true then (c.file ++ buf).take e.kept else c.file ++ buf := by
  subst hbuf
  rw [← hlog, ← hfile, ← hcloses, ← hwrites]
  refine ⟨Consumer.leave_phase _ _ _ _, Consumer.leave_buf _ _ _ _, Consumer.leave_closes _ _ _ _,
    Consumer.leave_writes _ _ _ _, Consumer.leave_log _ _ _ _, ?_⟩
  simp [Consumer.leave_file, Consumer.content]

/-- Settles O60: each ending answer leaves the loop with what it gained and noted before. -/
theorem endingAnswersLeaveTheFileClosed : Obligations.EndingAnswersLeaveTheFileClosed := by
  intro threshold c bytes e hphase d rest leaves
  refine ⟨fun hend => ?endOfStream, fun hfail => ?failure, fun n hchunk => ⟨?rest, fun hmem => ?sentinel, ?flushFails⟩⟩
  case endOfStream =>
    simp only [leaves, d, rest, Consumer.answer_of_endOfStream hphase hend]
    exact ⟨leave_fields _ e rfl (List.append_nil _).symm rfl rfl rfl, trivial⟩
  case failure =>
    simp only [leaves, d, rest, Consumer.answer_of_failure hphase hfail]
    exact ⟨leave_fields _ e rfl rfl rfl rfl rfl, trivial⟩
  case rest => simp only [rest, Consumer.answer_of_chunk hphase hchunk]
  case sentinel =>
    simp only [leaves, d, Consumer.answer_of_chunk hphase hchunk, takeChunk_of_mem hmem]
    exact leave_fields _ e rfl rfl rfl rfl rfl
  case flushFails =>
    intro hne hmem hlong hfails
    simp only [d, Consumer.answer_of_chunk hphase hchunk, takeChunk_of_flushFails hne hmem hlong hfails]
    simp [Consumer.leave_writes, Consumer.leave_log, Consumer.leave_file, Consumer.content, Consumer.flushFailed, hne]

end Sys2Proof.Machine
end

section
/-! The inputs an environment can present (rules R36, R38, R61, R103; log entries 5, 11, 23): the checks of a cycle
said by what they find, the draws, and what a step that goes on had. -/

namespace Sys2Proof.Machine

variable {s t : State} {c : Consumer} {threshold : Nat} {bytes : List Byte} {es : List HostEvent}

theorem wellFormed_eq_false_iff {n : Nat} {x : Stimulus} : x.wellFormed n = false ↔ 2 ^ n ≤ x.pins.toNat := by
  simp [Stimulus.wellFormed]

/-- Rule R38 against a room value: room without a slot, or, with `ROOM_EXACT`, a slot without room. -/
theorem roomAdmissible_eq_false_iff : s.roomAdmissible s.room = false ↔
    (s.room = true ∧ s.cfg.capacity ≤ s.queue.length) ∨
      (s.cfg.roomExact = true ∧ s.room = false ∧ s.queue.length < s.cfg.capacity) := by
  have hslot : s.hasSlot = false ↔ s.cfg.capacity ≤ s.queue.length := by simp [State.hasSlot]
  rw [← hslot, ← hasSlot_iff, State.roomAdmissible]
  cases s.cfg.roomExact <;> cases s.room <;> cases s.hasSlot <;> decide

/-- Rule R103 against a list of answers: somewhere in it the stream ends normally, while the consumer requests and
bytes are undelivered. -/
theorem admits_eq_false_iff : Consumer.admits threshold (c, bytes) es = false ↔
    ∃ first e last, es = first ++ e :: last ∧ e.result = .endOfStream ∧
      (Consumer.answers threshold c bytes first).1.phase = .requesting ∧
      (Consumer.answers threshold c bytes first).2 ≠ [] := by
  induction es generalizing c bytes with
  | nil => simp [Consumer.admits]
  | cons e es ih =>
    have hcons : Consumer.admits threshold (c, bytes) (e :: es) = false ↔
        (e.result = .endOfStream ∧ c.phase = .requesting ∧ bytes ≠ []) ∨
          Consumer.admits threshold (Consumer.answer threshold (c, bytes) e) es = false := by
      rw [Consumer.admits, Bool.and_eq_false_iff]
      cases c.phase <;> cases e.result <;> simp
    rw [hcons, ih]
    constructor
    · rintro (hnow | ⟨first, e', last, rfl, hlater⟩)
      · exact ⟨[], e, es, rfl, hnow⟩
      · exact ⟨e :: first, e', last, rfl, hlater⟩
    · rintro ⟨first, e', last, hsplit, hlater⟩
      cases first with
      | nil =>
        cases hsplit
        exact .inl hlater
      | cons e'' first =>
        cases hsplit
        exact .inr ⟨first, e', last, rfl, hlater⟩

/-- After admitted answers that end the stream normally nothing that was in flight is undelivered (rule R103). -/
theorem answers_snd_of_endOfStream (hadmits : Consumer.admits threshold (c, bytes) es = true)
    (hphase : c.phase = .requesting)
    (hend : (Consumer.answers threshold c bytes es).1.phase = .exited .endOfStream) :
    (Consumer.answers threshold c bytes es).2 = [] := by
  induction es generalizing c bytes with
  | nil =>
    rw [answers_nil] at hend
    rw [hphase] at hend
    cases hend
  | cons e es ih =>
    rw [Consumer.admits, Bool.and_eq_true] at hadmits
    obtain ⟨hnow, hlater⟩ := hadmits
    rw [answers_cons] at hend ⊢
    have hexit : ∀ path, (Consumer.answer threshold (c, bytes) e).1.phase = .exited path →
        path = .endOfStream ∧ (Consumer.answers threshold (Consumer.answer threshold (c, bytes) e).1
          (Consumer.answer threshold (c, bytes) e).2 es).2 = (Consumer.answer threshold (c, bytes) e).2 := by
      intro path hpath
      rw [answers_of_exited hpath, hpath] at hend
      rw [answers_of_exited hpath]
      cases hend
      exact ⟨rfl, rfl⟩
    cases hresult : e.result with
    | endOfStream =>
      rw [Consumer.answer_of_endOfStream hphase hresult] at hexit ⊢
      simp only [hphase, hresult] at hnow
      exact (hexit _ (Consumer.leave_phase _ _ _ _)).2.trans (List.isEmpty_iff.mp hnow)
    | failure =>
      rw [Consumer.answer_of_failure hphase hresult] at hexit
      cases (hexit _ (Consumer.leave_phase _ _ _ _)).1
    | chunk n =>
      rw [Consumer.answer_of_chunk hphase hresult] at hexit hlater hend ⊢
      by_cases hmem : (0xFF : Byte) ∈ bytes.take n
      · rw [takeChunk_of_mem hmem] at hexit
        cases (hexit _ (Consumer.leave_phase _ _ _ _)).1
      · obtain htook | ⟨-, hflush⟩ := takeChunk_cases (c := c) (threshold := threshold) (e := e) hmem
        · exact ih hlater (htook.phase.trans hphase) hend
        · rw [hflush] at hexit
          cases (hexit _ (Consumer.leave_phase _ _ _ _)).1

/-- Settles O38: each draw is made within its constraint. -/
theorem freeDrawsAreAdmissible : Obligations.FreeDrawsAreAdmissible := by
  intro s hlegal hnone
  obtain ⟨⟨-, hN⟩, -⟩ := legal_iff.mp hlegal
  have hinput : s.input = s.drawn := by rw [State.input, hnone]
  have hevents : s.hostEvents = s.drawnHost := by rw [State.hostEvents, hinput]; rfl
  rw [inputProblem_eq_none_iff, State.room, hinput, hevents]
  refine ⟨decide_eq_true (narrow_lt _ hN _), ?room, Nat.min_le_right _ _, ?host⟩
  case room =>
    simp only [State.roomAdmissible, State.drawn]
    cases s.cfg.roomExact with
    | true => simp
    | false => cases s.hasSlot <;> simp
  case host =>
    unfold State.drawnHost
    split
    next hadmits => exact hadmits
    next => rfl

/-- The checks of a cycle in their order: pins, room, removal, the stream's end (log entry 11). -/
theorem inputProblem_of_pins (h : s.input.wellFormed s.cfg.channels = false) :
    s.inputProblem = some .pinsBeyondChannels := by
  simp [State.inputProblem, h]

theorem inputProblem_of_room (hpins : s.input.wellFormed s.cfg.channels = true)
    (h : s.roomAdmissible s.room = false) : s.inputProblem = some .roomBreaksConstraint := by
  simp [State.inputProblem, hpins, h]

theorem inputProblem_of_drain (hpins : s.input.wellFormed s.cfg.channels = true)
    (hroom : s.roomAdmissible s.room = true) (h : s.queue.length < s.input.drain) :
    s.inputProblem = some .drainBeyondQueue := by
  simp [State.inputProblem, hpins, hroom, h]

theorem inputProblem_of_host (hpins : s.input.wellFormed s.cfg.channels = true)
    (hroom : s.roomAdmissible s.room = true) (hdrain : s.input.drain ≤ s.queue.length)
    (h : Consumer.admits s.cfg.flushThreshold (s.host, s.inFlight) s.hostEvents = false) :
    s.inputProblem = some .endOfStreamBeforeDelivery := by
  simp [State.inputProblem, hpins, hroom, hdrain, h]

/-- What a step that goes on had for inputs, and what a normal end of the stream in it left in flight (rules R36, R38,
R61, R103). -/
theorem inputs_of_step (h : step s = .next t) :
    s.input.pins.toNat < 2 ^ s.cfg.channels ∧ (s.input.room = true → s.queue.length < s.cfg.capacity) ∧
    (s.cfg.roomExact = true → (s.input.room = true ↔ s.queue.length < s.cfg.capacity)) ∧
    s.input.drain ≤ s.queue.length ∧
    (s.host.phase = .requesting → t.host.phase = .exited .endOfStream → t.inFlight = s.queue.take s.input.drain) := by
  obtain ⟨-, hinput, -, -, rfl⟩ := step_eq_next_iff_parallelNext.mp h
  obtain ⟨hpins, hroom, hdrain, hadmits⟩ := inputProblem_eq_none_iff.mp hinput
  have hslot : s.input.room = true → s.queue.length < s.cfg.capacity :=
    fun hsome => hasSlot_iff.mp (hasSlot_of_room hroom hsome)
  refine ⟨of_decide_eq_true hpins, hslot, fun hexact => ⟨hslot, fun hfree => ?_⟩, hdrain, fun hphase hend => ?_⟩
  · by_contra hnone
    have hbad := roomAdmissible_eq_false_iff.mpr (.inr ⟨hexact, Bool.eq_false_iff.mpr hnone, hfree⟩)
    rw [hroom] at hbad
    cases hbad
  · change (Consumer.answers _ _ _ _).2 ++ _ = _
    rw [answers_snd_of_endOfStream hadmits hphase hend, List.nil_append]

/-- Settles O59: each check finds what the statement names, in the order of the cycle, and a step that goes on passed
them all. -/
theorem inputsKeepTheEnvironmentsConstraints : Obligations.InputsKeepTheEnvironmentsConstraints := by
  intro s hlegal badPins badRoom badDrain badEnd
  have hpins : s.input.wellFormed s.cfg.channels = false ↔ badPins := wellFormed_eq_false_iff
  have hroom : s.roomAdmissible s.room = false ↔ badRoom := roomAdmissible_eq_false_iff
  have hend : Consumer.admits s.cfg.flushThreshold (s.host, s.inFlight) s.hostEvents = false ↔ badEnd :=
    admits_eq_false_iff
  rw [← hpins, ← hroom, ← hend, Bool.not_eq_false, Bool.not_eq_false, Bool.not_eq_false, not_lt]
  exact ⟨fun h1 => step_of_inputProblem hlegal (inputProblem_of_pins h1),
    fun h1 h2 => step_of_inputProblem hlegal (inputProblem_of_room h1 h2),
    fun h1 h2 h3 => step_of_inputProblem hlegal (inputProblem_of_drain h1 h2 h3),
    fun h1 h2 h3 h4 => step_of_inputProblem hlegal (inputProblem_of_host h1 h2 h3 h4),
    fun h1 h2 h3 h4 hsmp hstr => ⟨_, step_of_codes hlegal (inputProblem_eq_none_iff.mpr ⟨h1, h2, h3, h4⟩) hsmp hstr⟩,
    fun t ht => inputs_of_step ht⟩

/-- Another host changes the parallel next state in the host and the bytes in flight alone (`48_host_consumer.md`
section 1). -/
theorem parallelNext_setHost (s : State) (bytes : List Byte) (c : Consumer) : (s.setHost bytes c).parallelNext =
    s.parallelNext.setHost (s.setHost bytes c).parallelNext.inFlight (s.setHost bytes c).parallelNext.host :=
  rfl

/-- Settles O53: the changed host meets the first three checks as before, and the last one decides. -/
theorem hostNeverChangesTheBlock : Obligations.HostNeverChangesTheBlock := by
  intro s t bytes c h u
  obtain ⟨hlegal, hinput, hsmp, hstr, rfl⟩ := step_eq_next_iff_parallelNext.mp h
  obtain ⟨hpins, hroom, hdrain, -⟩ := inputProblem_eq_none_iff.mp hinput
  refine ⟨fun hadmits => ?_, fun hrejects => ?_⟩
  · have hgoes := step_of_codes (s := s.setHost bytes c) hlegal
      (inputProblem_eq_none_iff.mpr ⟨hpins, hroom, hdrain, hadmits⟩) hsmp hstr
    rw [parallelNext_setHost] at hgoes
    exact ⟨_, _, hgoes⟩
  · exact step_of_inputProblem (s := s.setHost bytes c) hlegal (inputProblem_of_host hpins hroom hdrain hrejects)

end Sys2Proof.Machine
end
